-- ==== Sys2Proof/Word.lean ====
section
/-! DEFINITION. The bit-vector types of the machine: bytes, halfwords, words and register numbers
(spec/00_scope.md R14, spec/10_state.md R40, spec/30_encoding.md R200, R201). -/

namespace Sys2Proof

/-- A byte, the unit of addressing (20_memory.md R100). -/
abbrev Byte := BitVec 8

/-- A halfword: a THUMB instruction, an I/O register (30_encoding.md R200, 20_memory.md R125). -/
abbrev Half := BitVec 16

/-- A word: a general register, an ARM instruction, an address (10_state.md R40). -/
abbrev Word := BitVec 32

/-- A four-bit register number, R0..R15 (30_encoding.md R201). -/
abbrev RegNum := BitVec 4

/-- A three-bit THUMB register number, R0..R7 (10_state.md R44). -/
abbrev LowReg := BitVec 3

end Sys2Proof
end

