-- ==== Sys2Proof/Config.lean ====
section
/-! DEFINITION. The parameters of the block (spec/00_scope.md R8, R9), its fixed sizes and times, and
the free values the spec leaves open. -/

namespace Sys2Proof

/-- What an UNPREDICTABLE case does (00_scope.md R12): stop with a model fault, or take the listed
emulated behaviour. -/
inductive UnpredPolicy where
  | fault
  | emulate
  deriving DecidableEq, Repr

/-- The backup device kinds of 00_scope.md R8, and `eeprom`, an EEPROM without a size (20_memory.md R152). -/
inductive BackupKind where
  | none
  | sram
  | eeprom
  | eeprom512
  | eeprom8k
  | flash64k
  | flash128k
  deriving DecidableEq, Repr

/-- The parameter `BackupDevice` (00_scope.md R9, 20_memory.md R150): the reference devices of R151 and R152, or a
device that the user of the model supplies, which is the `Config.device…` functions below (log entry 4). -/
inductive BackupDevice where
  | reference
  | supplied
  deriving DecidableEq, Repr

/-- The parameters of 00_scope.md R9 that are not images.  The BIOS and ROM images themselves stand in
the machine's memory list (log entry 2); `romSize` is the length of the ROM image in bytes. -/
structure Params where
  romSize            : Nat
  backup             : BackupKind
  device             : BackupDevice
  unpred             : UnpredPolicy
  skipBios           : Bool
  biosLatchAfterSkip : Word
  flashId            : Half
  deriving DecidableEq, Repr

/-- The defaults of 00_scope.md R9, R10 and R12, letter for letter: `UNPRED_POLICY = fault`,
`BIOS_LATCH_AFTER_SKIP = 0xE129F000`, `FLASH_ID = 0x1B32`; no ROM image, the document's
"default to minimal Flash 64KB" for the backup kind, and the reference device (log entry 4). -/
def Params.specDefault : Params :=
  { romSize := 0, backup := .flash64k, device := .reference, unpred := .fault, skipBios := false,
    biosLatchAfterSkip := 0xE129F000#32, flashId := 0x1B32#16 }

/-- The parameters of the machine `State.reset`: the spec's defaults with `UNPRED_POLICY = emulate`, so
that an instruction the spec gives an emulated effect runs (log entry 3). -/
def Params.reset : Params := { Params.specDefault with unpred := .emulate }

namespace Config

/-- Bytes of the BIOS image (00_scope.md R8). -/
def biosSize : Nat := 0x4000

/-- Cycles from the start of a line to HDraw end (62_ppu.md R671). -/
def hdrawCycles : Nat := 1006

/-- Cycles of H-Blank (62_ppu.md R671, R673). -/
def hblankCycles : Nat := 226

/-- Cycles of a frame, 228 lines of 1232 (62_ppu.md R671, 70_reset_and_hazards.md R775). -/
def frameCycles : Nat := 280896

/-- How many due events one `step` dispatches before it hands the rest to the next `step`.  The spec's
`DispatchDue` (61_timers_dma.md R605) has no bound; see log entry 5. -/
def dispatchBudget : Nat := 4096

/-- The byte an object texel reads when its address lies past the end of VRAM (an 8 bpp texel of tile
1023): 62_ppu.md R731 gives the address and states no value there.  A free value (log entry 12). -/
opaque objTexelPastVram : Nat → Byte

/-- Whether an EEPROM without a size takes 14 address bits after a first DMA3 transfer of a number of units that is
none of 9, 17, 73 and 81, and, applied to 0, before any such transfer: 20_memory.md R152 states neither.  A free
value (log entry 13). -/
opaque eepromWide : Nat → Bool

/-- The version word of a save-state, which 70_reset_and_hazards.md R780 leaves to the layout of the encoding.  A free
value (log entry 29). -/
opaque saveStateVersion : Word

/-! The supplied `BackupDevice` (20_memory.md R150): its four operations and its state at creation, over a state of its
own that stands in the machine's state.  They have no body, so a claim holds for every device (log entry 4). -/

/-- The device's state at creation. -/
opaque deviceInit : List Byte

/-- `read8(b)`. -/
opaque deviceRead8 : List Byte → Nat → Byte

/-- `write8(b, d)`. -/
opaque deviceWrite8 : List Byte → Nat → Byte → List Byte

/-- `eeprom_read_bit()`. -/
opaque deviceReadBit : List Byte → Bool × List Byte

/-- `eeprom_write_bit(bit)`. -/
opaque deviceWriteBit : List Byte → Bool → List Byte

end Config

end Sys2Proof
end

