-- ==== Sys2Proof/Syntax.lean ====
section
/-! DEFINITION. The instructions: one constructor of `Instr` per row of spec/opcode_table.json, in the
table's order, with the row's fields as arguments.  Should-be-zero and should-be-one fields are no
arguments (spec/30_encoding.md R209).  A row of undefined encodings carries the whole word, so that none
of its bits is lost. -/

namespace Sys2Proof

/-- The condition field `i[31:28]` (30_encoding.md R205). -/
inductive Cond where
  | eq | ne | cs | cc | mi | pl | vs | vc | hi | ls | ge | lt | gt | le | al | nv
  deriving DecidableEq, Repr

/-- The shift type `i[6:5]` (30_encoding.md R203). -/
inductive ShiftKind where
  | lsl | lsr | asr | ror
  deriving DecidableEq, Repr

/-- The sixteen data-processing operations, in the order of their opcodes (30_encoding.md R204). -/
inductive DpOp where
  | and | eor | sub | rsb | add | adc | sbc | rsc | tst | teq | cmp | cmn | orr | mov | bic | mvn
  deriving DecidableEq, Repr

/-- The instructions of spec/opcode_table.json, one constructor per row.  Names beginning with `t` and a
capital letter are the THUMB rows; `Shi`, `Shr` and `Imm` are the immediate-shift, register-shift and
immediate forms of the shifter operand (30_encoding.md R202). -/
inductive Instr where
  /-- AND, ARM, DP, immediate shift (R280). -/
  | andShi (cond : Cond) (s : Bool) (rn rd : RegNum) (shiftImm : BitVec 5) (shift : ShiftKind) (rm : RegNum)
  /-- AND, ARM, DP, register shift (R280). -/
  | andShr (cond : Cond) (s : Bool) (rn rd rs : RegNum) (shift : ShiftKind) (rm : RegNum)
  /-- AND, ARM, DP, immediate (R280). -/
  | andImm (cond : Cond) (s : Bool) (rn rd : RegNum) (rotate : BitVec 4) (imm8 : BitVec 8)
  /-- EOR, ARM, DP, immediate shift (R281). -/
  | eorShi (cond : Cond) (s : Bool) (rn rd : RegNum) (shiftImm : BitVec 5) (shift : ShiftKind) (rm : RegNum)
  /-- EOR, ARM, DP, register shift (R281). -/
  | eorShr (cond : Cond) (s : Bool) (rn rd rs : RegNum) (shift : ShiftKind) (rm : RegNum)
  /-- EOR, ARM, DP, immediate (R281). -/
  | eorImm (cond : Cond) (s : Bool) (rn rd : RegNum) (rotate : BitVec 4) (imm8 : BitVec 8)
  /-- SUB, ARM, DP, immediate shift (R282). -/
  | subShi (cond : Cond) (s : Bool) (rn rd : RegNum) (shiftImm : BitVec 5) (shift : ShiftKind) (rm : RegNum)
  /-- SUB, ARM, DP, register shift (R282). -/
  | subShr (cond : Cond) (s : Bool) (rn rd rs : RegNum) (shift : ShiftKind) (rm : RegNum)
  /-- SUB, ARM, DP, immediate (R282). -/
  | subImm (cond : Cond) (s : Bool) (rn rd : RegNum) (rotate : BitVec 4) (imm8 : BitVec 8)
  /-- RSB, ARM, DP, immediate shift (R283). -/
  | rsbShi (cond : Cond) (s : Bool) (rn rd : RegNum) (shiftImm : BitVec 5) (shift : ShiftKind) (rm : RegNum)
  /-- RSB, ARM, DP, register shift (R283). -/
  | rsbShr (cond : Cond) (s : Bool) (rn rd rs : RegNum) (shift : ShiftKind) (rm : RegNum)
  /-- RSB, ARM, DP, immediate (R283). -/
  | rsbImm (cond : Cond) (s : Bool) (rn rd : RegNum) (rotate : BitVec 4) (imm8 : BitVec 8)
  /-- ADD, ARM, DP, immediate shift (R284). -/
  | addShi (cond : Cond) (s : Bool) (rn rd : RegNum) (shiftImm : BitVec 5) (shift : ShiftKind) (rm : RegNum)
  /-- ADD, ARM, DP, register shift (R284). -/
  | addShr (cond : Cond) (s : Bool) (rn rd rs : RegNum) (shift : ShiftKind) (rm : RegNum)
  /-- ADD, ARM, DP, immediate (R284). -/
  | addImm (cond : Cond) (s : Bool) (rn rd : RegNum) (rotate : BitVec 4) (imm8 : BitVec 8)
  /-- ADC, ARM, DP, immediate shift (R285). -/
  | adcShi (cond : Cond) (s : Bool) (rn rd : RegNum) (shiftImm : BitVec 5) (shift : ShiftKind) (rm : RegNum)
  /-- ADC, ARM, DP, register shift (R285). -/
  | adcShr (cond : Cond) (s : Bool) (rn rd rs : RegNum) (shift : ShiftKind) (rm : RegNum)
  /-- ADC, ARM, DP, immediate (R285). -/
  | adcImm (cond : Cond) (s : Bool) (rn rd : RegNum) (rotate : BitVec 4) (imm8 : BitVec 8)
  /-- SBC, ARM, DP, immediate shift (R286). -/
  | sbcShi (cond : Cond) (s : Bool) (rn rd : RegNum) (shiftImm : BitVec 5) (shift : ShiftKind) (rm : RegNum)
  /-- SBC, ARM, DP, register shift (R286). -/
  | sbcShr (cond : Cond) (s : Bool) (rn rd rs : RegNum) (shift : ShiftKind) (rm : RegNum)
  /-- SBC, ARM, DP, immediate (R286). -/
  | sbcImm (cond : Cond) (s : Bool) (rn rd : RegNum) (rotate : BitVec 4) (imm8 : BitVec 8)
  /-- RSC, ARM, DP, immediate shift (R287). -/
  | rscShi (cond : Cond) (s : Bool) (rn rd : RegNum) (shiftImm : BitVec 5) (shift : ShiftKind) (rm : RegNum)
  /-- RSC, ARM, DP, register shift (R287). -/
  | rscShr (cond : Cond) (s : Bool) (rn rd rs : RegNum) (shift : ShiftKind) (rm : RegNum)
  /-- RSC, ARM, DP, immediate (R287). -/
  | rscImm (cond : Cond) (s : Bool) (rn rd : RegNum) (rotate : BitVec 4) (imm8 : BitVec 8)
  /-- TST, ARM, DP, immediate shift (R288). -/
  | tstShi (cond : Cond) (rn : RegNum) (shiftImm : BitVec 5) (shift : ShiftKind) (rm : RegNum)
  /-- TST, ARM, DP, register shift (R288). -/
  | tstShr (cond : Cond) (rn rs : RegNum) (shift : ShiftKind) (rm : RegNum)
  /-- TST, ARM, DP, immediate (R288). -/
  | tstImm (cond : Cond) (rn : RegNum) (rotate : BitVec 4) (imm8 : BitVec 8)
  /-- TEQ, ARM, DP, immediate shift (R289). -/
  | teqShi (cond : Cond) (rn : RegNum) (shiftImm : BitVec 5) (shift : ShiftKind) (rm : RegNum)
  /-- TEQ, ARM, DP, register shift (R289). -/
  | teqShr (cond : Cond) (rn rs : RegNum) (shift : ShiftKind) (rm : RegNum)
  /-- TEQ, ARM, DP, immediate (R289). -/
  | teqImm (cond : Cond) (rn : RegNum) (rotate : BitVec 4) (imm8 : BitVec 8)
  /-- CMP, ARM, DP, immediate shift (R290). -/
  | cmpShi (cond : Cond) (rn : RegNum) (shiftImm : BitVec 5) (shift : ShiftKind) (rm : RegNum)
  /-- CMP, ARM, DP, register shift (R290). -/
  | cmpShr (cond : Cond) (rn rs : RegNum) (shift : ShiftKind) (rm : RegNum)
  /-- CMP, ARM, DP, immediate (R290). -/
  | cmpImm (cond : Cond) (rn : RegNum) (rotate : BitVec 4) (imm8 : BitVec 8)
  /-- CMN, ARM, DP, immediate shift (R291). -/
  | cmnShi (cond : Cond) (rn : RegNum) (shiftImm : BitVec 5) (shift : ShiftKind) (rm : RegNum)
  /-- CMN, ARM, DP, register shift (R291). -/
  | cmnShr (cond : Cond) (rn rs : RegNum) (shift : ShiftKind) (rm : RegNum)
  /-- CMN, ARM, DP, immediate (R291). -/
  | cmnImm (cond : Cond) (rn : RegNum) (rotate : BitVec 4) (imm8 : BitVec 8)
  /-- ORR, ARM, DP, immediate shift (R292). -/
  | orrShi (cond : Cond) (s : Bool) (rn rd : RegNum) (shiftImm : BitVec 5) (shift : ShiftKind) (rm : RegNum)
  /-- ORR, ARM, DP, register shift (R292). -/
  | orrShr (cond : Cond) (s : Bool) (rn rd rs : RegNum) (shift : ShiftKind) (rm : RegNum)
  /-- ORR, ARM, DP, immediate (R292). -/
  | orrImm (cond : Cond) (s : Bool) (rn rd : RegNum) (rotate : BitVec 4) (imm8 : BitVec 8)
  /-- MOV, ARM, DP, immediate shift (R293). -/
  | movShi (cond : Cond) (s : Bool) (rd : RegNum) (shiftImm : BitVec 5) (shift : ShiftKind) (rm : RegNum)
  /-- MOV, ARM, DP, register shift (R293). -/
  | movShr (cond : Cond) (s : Bool) (rd rs : RegNum) (shift : ShiftKind) (rm : RegNum)
  /-- MOV, ARM, DP, immediate (R293). -/
  | movImm (cond : Cond) (s : Bool) (rd : RegNum) (rotate : BitVec 4) (imm8 : BitVec 8)
  /-- BIC, ARM, DP, immediate shift (R294). -/
  | bicShi (cond : Cond) (s : Bool) (rn rd : RegNum) (shiftImm : BitVec 5) (shift : ShiftKind) (rm : RegNum)
  /-- BIC, ARM, DP, register shift (R294). -/
  | bicShr (cond : Cond) (s : Bool) (rn rd rs : RegNum) (shift : ShiftKind) (rm : RegNum)
  /-- BIC, ARM, DP, immediate (R294). -/
  | bicImm (cond : Cond) (s : Bool) (rn rd : RegNum) (rotate : BitVec 4) (imm8 : BitVec 8)
  /-- MVN, ARM, DP, immediate shift (R295). -/
  | mvnShi (cond : Cond) (s : Bool) (rd : RegNum) (shiftImm : BitVec 5) (shift : ShiftKind) (rm : RegNum)
  /-- MVN, ARM, DP, register shift (R295). -/
  | mvnShr (cond : Cond) (s : Bool) (rd rs : RegNum) (shift : ShiftKind) (rm : RegNum)
  /-- MVN, ARM, DP, immediate (R295). -/
  | mvnImm (cond : Cond) (s : Bool) (rd : RegNum) (rotate : BitVec 4) (imm8 : BitVec 8)
  /-- MUL, ARM, MUL (R314). -/
  | mul (cond : Cond) (s : Bool) (rd rs rm : RegNum)
  /-- MLA, ARM, MLA (R315). -/
  | mla (cond : Cond) (s : Bool) (rd rn rs rm : RegNum)
  /-- UMULL, ARM, UMULL (R316). -/
  | umull (cond : Cond) (s : Bool) (rdHi rdLo rs rm : RegNum)
  /-- UMLAL, ARM, UMLAL (R317). -/
  | umlal (cond : Cond) (s : Bool) (rdHi rdLo rs rm : RegNum)
  /-- SMULL, ARM, SMULL (R318). -/
  | smull (cond : Cond) (s : Bool) (rdHi rdLo rs rm : RegNum)
  /-- SMLAL, ARM, SMLAL (R319). -/
  | smlal (cond : Cond) (s : Bool) (rdHi rdLo rs rm : RegNum)
  /-- SWP, ARM, SWP (R372). -/
  | swp (cond : Cond) (rn rd rm : RegNum)
  /-- SWPB, ARM, SWPB (R373). -/
  | swpb (cond : Cond) (rn rd rm : RegNum)
  /-- MRS, ARM, MRS (R332). -/
  | mrs (cond : Cond) (r : Bool) (rd : RegNum)
  /-- MSR, ARM, MSR (reg) (R333). -/
  | msrReg (cond : Cond) (r : Bool) (mask : BitVec 4) (rm : RegNum)
  /-- MSR, ARM, MSR (imm) (R334). -/
  | msrImm (cond : Cond) (r : Bool) (mask rotate : BitVec 4) (imm8 : BitVec 8)
  /-- BX, ARM, BX (R337). -/
  | bx (cond : Cond) (rm : RegNum)
  /-- STRH, ARM, STRH (reg) (R364). -/
  | strhReg (cond : Cond) (p u w : Bool) (rn rd rm : RegNum)
  /-- STRH, ARM, STRH (imm) (R364). -/
  | strhImm (cond : Cond) (p u w : Bool) (rn rd : RegNum) (immH immL : BitVec 4)
  /-- LDRH, ARM, LDRH (reg) (R363). -/
  | ldrhReg (cond : Cond) (p u w : Bool) (rn rd rm : RegNum)
  /-- LDRH, ARM, LDRH (imm) (R363). -/
  | ldrhImm (cond : Cond) (p u w : Bool) (rn rd : RegNum) (immH immL : BitVec 4)
  /-- LDRSB, ARM, LDRSB (reg) (R365). -/
  | ldrsbReg (cond : Cond) (p u w : Bool) (rn rd rm : RegNum)
  /-- LDRSB, ARM, LDRSB (imm) (R365). -/
  | ldrsbImm (cond : Cond) (p u w : Bool) (rn rd : RegNum) (immH immL : BitVec 4)
  /-- LDRSH, ARM, LDRSH (reg) (R366). -/
  | ldrshReg (cond : Cond) (p u w : Bool) (rn rd rm : RegNum)
  /-- LDRSH, ARM, LDRSH (imm) (R366). -/
  | ldrshImm (cond : Cond) (p u w : Bool) (rn rd : RegNum) (immH immL : BitVec 4)
  /-- STR, ARM, STR (imm), pre-indexed (R357). -/
  | strImmPre (cond : Cond) (u w : Bool) (rn rd : RegNum) (imm12 : BitVec 12)
  /-- STR, ARM, STR (imm), post-indexed (R357). -/
  | strImmPost (cond : Cond) (u : Bool) (rn rd : RegNum) (imm12 : BitVec 12)
  /-- STRT, ARM, STRT (imm) (R361). -/
  | strtImm (cond : Cond) (u : Bool) (rn rd : RegNum) (imm12 : BitVec 12)
  /-- STR, ARM, STR (reg), pre-indexed (R357). -/
  | strRegPre (cond : Cond) (u w : Bool) (rn rd : RegNum) (shiftImm : BitVec 5) (shift : ShiftKind) (rm : RegNum)
  /-- STR, ARM, STR (reg), post-indexed (R357). -/
  | strRegPost (cond : Cond) (u : Bool) (rn rd : RegNum) (shiftImm : BitVec 5) (shift : ShiftKind) (rm : RegNum)
  /-- STRT, ARM, STRT (reg) (R361). -/
  | strtReg (cond : Cond) (u : Bool) (rn rd : RegNum) (shiftImm : BitVec 5) (shift : ShiftKind) (rm : RegNum)
  /-- LDR, ARM, LDR (imm), pre-indexed (R356). -/
  | ldrImmPre (cond : Cond) (u w : Bool) (rn rd : RegNum) (imm12 : BitVec 12)
  /-- LDR, ARM, LDR (imm), post-indexed (R356). -/
  | ldrImmPost (cond : Cond) (u : Bool) (rn rd : RegNum) (imm12 : BitVec 12)
  /-- LDRT, ARM, LDRT (imm) (R361). -/
  | ldrtImm (cond : Cond) (u : Bool) (rn rd : RegNum) (imm12 : BitVec 12)
  /-- LDR, ARM, LDR (reg), pre-indexed (R356). -/
  | ldrRegPre (cond : Cond) (u w : Bool) (rn rd : RegNum) (shiftImm : BitVec 5) (shift : ShiftKind) (rm : RegNum)
  /-- LDR, ARM, LDR (reg), post-indexed (R356). -/
  | ldrRegPost (cond : Cond) (u : Bool) (rn rd : RegNum) (shiftImm : BitVec 5) (shift : ShiftKind) (rm : RegNum)
  /-- LDRT, ARM, LDRT (reg) (R361). -/
  | ldrtReg (cond : Cond) (u : Bool) (rn rd : RegNum) (shiftImm : BitVec 5) (shift : ShiftKind) (rm : RegNum)
  /-- STRB, ARM, STRB (imm), pre-indexed (R359). -/
  | strbImmPre (cond : Cond) (u w : Bool) (rn rd : RegNum) (imm12 : BitVec 12)
  /-- STRB, ARM, STRB (imm), post-indexed (R359). -/
  | strbImmPost (cond : Cond) (u : Bool) (rn rd : RegNum) (imm12 : BitVec 12)
  /-- STRBT, ARM, STRBT (imm) (R361). -/
  | strbtImm (cond : Cond) (u : Bool) (rn rd : RegNum) (imm12 : BitVec 12)
  /-- STRB, ARM, STRB (reg), pre-indexed (R359). -/
  | strbRegPre (cond : Cond) (u w : Bool) (rn rd : RegNum) (shiftImm : BitVec 5) (shift : ShiftKind) (rm : RegNum)
  /-- STRB, ARM, STRB (reg), post-indexed (R359). -/
  | strbRegPost (cond : Cond) (u : Bool) (rn rd : RegNum) (shiftImm : BitVec 5) (shift : ShiftKind) (rm : RegNum)
  /-- STRBT, ARM, STRBT (reg) (R361). -/
  | strbtReg (cond : Cond) (u : Bool) (rn rd : RegNum) (shiftImm : BitVec 5) (shift : ShiftKind) (rm : RegNum)
  /-- LDRB, ARM, LDRB (imm), pre-indexed (R358). -/
  | ldrbImmPre (cond : Cond) (u w : Bool) (rn rd : RegNum) (imm12 : BitVec 12)
  /-- LDRB, ARM, LDRB (imm), post-indexed (R358). -/
  | ldrbImmPost (cond : Cond) (u : Bool) (rn rd : RegNum) (imm12 : BitVec 12)
  /-- LDRBT, ARM, LDRBT (imm) (R361). -/
  | ldrbtImm (cond : Cond) (u : Bool) (rn rd : RegNum) (imm12 : BitVec 12)
  /-- LDRB, ARM, LDRB (reg), pre-indexed (R358). -/
  | ldrbRegPre (cond : Cond) (u w : Bool) (rn rd : RegNum) (shiftImm : BitVec 5) (shift : ShiftKind) (rm : RegNum)
  /-- LDRB, ARM, LDRB (reg), post-indexed (R358). -/
  | ldrbRegPost (cond : Cond) (u : Bool) (rn rd : RegNum) (shiftImm : BitVec 5) (shift : ShiftKind) (rm : RegNum)
  /-- LDRBT, ARM, LDRBT (reg) (R361). -/
  | ldrbtReg (cond : Cond) (u : Bool) (rn rd : RegNum) (shiftImm : BitVec 5) (shift : ShiftKind) (rm : RegNum)
  /-- STM, ARM, STM (R367). -/
  | stm (cond : Cond) (p u w : Bool) (rn : RegNum) (list : BitVec 16)
  /-- LDM, ARM, LDM (R367). -/
  | ldm (cond : Cond) (p u w : Bool) (rn : RegNum) (list : BitVec 16)
  /-- STM, ARM, STM (S) (R367). -/
  | stmS (cond : Cond) (p u w : Bool) (rn : RegNum) (list : BitVec 16)
  /-- LDM, ARM, LDM (S) (R367). -/
  | ldmS (cond : Cond) (p u w : Bool) (rn : RegNum) (list : BitVec 16)
  /-- B, ARM, B (R335). -/
  | b (cond : Cond) (offset24 : BitVec 24)
  /-- BL, ARM, BL (R336). -/
  | bl (cond : Cond) (offset24 : BitVec 24)
  /-- SWI, ARM, SWI (R400). -/
  | swi (cond : Cond) (comment24 : BitVec 24)
  /-- LDC_STC, ARM, CP transfer (LDC/STC) (R401). -/
  | ldcStc (cond : Cond) (p u n w l : Bool) (rn : RegNum) (crd cpNum : BitVec 4) (offset8 : BitVec 8)
  /-- CDP, ARM, CP data op (CDP) (R402). -/
  | cdp (cond : Cond) (op1 crn crd cpNum : BitVec 4) (op2 : BitVec 3) (crm : BitVec 4)
  /-- MRC_MCR, ARM, CP register (MRC/MCR) (R403). -/
  | mrcMcr (cond : Cond) (op1 : BitVec 3) (l : Bool) (crn : BitVec 4) (rd : RegNum) (cpNum : BitVec 4) (op2 : BitVec 3) (crm : BitVec 4)
  /-- UNDEF, ARM, UNDEF (a) multiply space, 0000 01 (R404). -/
  | undefMul00001 (w : Word)
  /-- UNDEF, ARM, UNDEF (a) multiply space, 0001 1 (R404). -/
  | undefMul00011 (w : Word)
  /-- UNDEF, ARM, UNDEF (a) swap space, 0001 0x x1 (R404). -/
  | undefSwpX1 (w : Word)
  /-- UNDEF, ARM, UNDEF (a) swap space, 0001 0x 10 (R404). -/
  | undefSwp10 (w : Word)
  /-- UNDEF, ARM, UNDEF (b) LDRD/STRD space (R404). -/
  | undefLdrdStrd (w : Word)
  /-- UNDEF, ARM, UNDEF (c) misc space, 0001 x00 / 0001 (R404). -/
  | undefMiscBx00 (w : Word)
  /-- UNDEF, ARM, UNDEF (c) misc space, 0001 x10 / 0001 (R404). -/
  | undefMiscBx10 (w : Word)
  /-- UNDEF, ARM, UNDEF (c) misc space, 0001 x11 / 0001 (R404). -/
  | undefMiscBx11 (w : Word)
  /-- UNDEF, ARM, UNDEF (c) misc space, 01xx (R404). -/
  | undefMisc01xx (w : Word)
  /-- UNDEF, ARM, UNDEF (c) misc space, 001x (R404). -/
  | undefMisc001x (w : Word)
  /-- UNDEF, ARM, UNDEF (c) misc space, 1xx0 (R404). -/
  | undefMisc1xx0 (w : Word)
  /-- UNDEF, ARM, UNDEF (d) MOV immediate to status (R404). -/
  | undefMovStatus (w : Word)
  /-- UNDEF, ARM, UNDEF (e) media space (R404). -/
  | undefMedia (w : Word)
  /-- LSL, THUMB, 1: LSL imm (R421). -/
  | tLslImm (offset5 : BitVec 5) (rs rd : LowReg)
  /-- LSR, THUMB, 1: LSR imm (R422). -/
  | tLsrImm (offset5 : BitVec 5) (rs rd : LowReg)
  /-- ASR, THUMB, 1: ASR imm (R423). -/
  | tAsrImm (offset5 : BitVec 5) (rs rd : LowReg)
  /-- ADD, THUMB, 2: ADD reg (R424). -/
  | tAddReg (rn rs rd : LowReg)
  /-- SUB, THUMB, 2: SUB reg (R425). -/
  | tSubReg (rn rs rd : LowReg)
  /-- ADD, THUMB, 2: ADD imm3 (R426). -/
  | tAddImm3 (offset3 : BitVec 3) (rs rd : LowReg)
  /-- SUB, THUMB, 2: SUB imm3 (R427). -/
  | tSubImm3 (offset3 : BitVec 3) (rs rd : LowReg)
  /-- MOV, THUMB, 3: MOV imm8 (R430). -/
  | tMovImm8 (rd : LowReg) (offset8 : BitVec 8)
  /-- CMP, THUMB, 3: CMP imm8 (R431). -/
  | tCmpImm8 (rd : LowReg) (offset8 : BitVec 8)
  /-- ADD, THUMB, 3: ADD imm8 (R432). -/
  | tAddImm8 (rd : LowReg) (offset8 : BitVec 8)
  /-- SUB, THUMB, 3: SUB imm8 (R433). -/
  | tSubImm8 (rd : LowReg) (offset8 : BitVec 8)
  /-- AND, THUMB, 4: AND (ALU) (R440). -/
  | tAnd (rs rd : LowReg)
  /-- EOR, THUMB, 4: EOR (ALU) (R441). -/
  | tEor (rs rd : LowReg)
  /-- LSL, THUMB, 4: LSL (ALU) (R442). -/
  | tLslReg (rs rd : LowReg)
  /-- LSR, THUMB, 4: LSR (ALU) (R443). -/
  | tLsrReg (rs rd : LowReg)
  /-- ASR, THUMB, 4: ASR (ALU) (R444). -/
  | tAsrReg (rs rd : LowReg)
  /-- ADC, THUMB, 4: ADC (ALU) (R445). -/
  | tAdc (rs rd : LowReg)
  /-- SBC, THUMB, 4: SBC (ALU) (R446). -/
  | tSbc (rs rd : LowReg)
  /-- ROR, THUMB, 4: ROR (ALU) (R447). -/
  | tRorReg (rs rd : LowReg)
  /-- TST, THUMB, 4: TST (ALU) (R448). -/
  | tTst (rs rd : LowReg)
  /-- NEG, THUMB, 4: NEG (ALU) (R449). -/
  | tNeg (rs rd : LowReg)
  /-- CMP, THUMB, 4: CMP (ALU) (R450). -/
  | tCmpReg (rs rd : LowReg)
  /-- CMN, THUMB, 4: CMN (ALU) (R451). -/
  | tCmn (rs rd : LowReg)
  /-- ORR, THUMB, 4: ORR (ALU) (R452). -/
  | tOrr (rs rd : LowReg)
  /-- MUL, THUMB, 4: MUL (ALU) (R453). -/
  | tMul (rs rd : LowReg)
  /-- BIC, THUMB, 4: BIC (ALU) (R454). -/
  | tBic (rs rd : LowReg)
  /-- MVN, THUMB, 4: MVN (ALU) (R455). -/
  | tMvn (rs rd : LowReg)
  /-- ADD, THUMB, 5: ADD hi (R461). -/
  | tAddHi (h1 h2 : Bool) (rs rd : LowReg)
  /-- CMP, THUMB, 5: CMP hi (R462). -/
  | tCmpHi (h1 h2 : Bool) (rs rd : LowReg)
  /-- MOV, THUMB, 5: MOV hi (R463). -/
  | tMovHi (h1 h2 : Bool) (rs rd : LowReg)
  /-- BX, THUMB, 5: BX (THUMB) (R464). -/
  | tBx (h1 h2 : Bool) (rs rd : LowReg)
  /-- LDR, THUMB, 6: LDR PC-rel (R480). -/
  | tLdrPc (rd : LowReg) (word8 : BitVec 8)
  /-- STR, THUMB, 7: STR reg (T) (R481). -/
  | tStrReg (ro rb rd : LowReg)
  /-- STRB, THUMB, 7: STRB reg (T) (R482). -/
  | tStrbReg (ro rb rd : LowReg)
  /-- LDR, THUMB, 7: LDR reg (T) (R483). -/
  | tLdrReg (ro rb rd : LowReg)
  /-- LDRB, THUMB, 7: LDRB reg (T) (R484). -/
  | tLdrbReg (ro rb rd : LowReg)
  /-- STRH, THUMB, 8: STRH reg (T) (R485). -/
  | tStrhReg (ro rb rd : LowReg)
  /-- LDSB, THUMB, 8: LDSB reg (T) (R486). -/
  | tLdsbReg (ro rb rd : LowReg)
  /-- LDRH, THUMB, 8: LDRH reg (T) (R487). -/
  | tLdrhReg (ro rb rd : LowReg)
  /-- LDSH, THUMB, 8: LDSH reg (T) (R488). -/
  | tLdshReg (ro rb rd : LowReg)
  /-- STR, THUMB, 9: STR imm (T) (R489). -/
  | tStrImm (offset5 : BitVec 5) (rb rd : LowReg)
  /-- LDR, THUMB, 9: LDR imm (T) (R490). -/
  | tLdrImm (offset5 : BitVec 5) (rb rd : LowReg)
  /-- STRB, THUMB, 9: STRB imm (T) (R491). -/
  | tStrbImm (offset5 : BitVec 5) (rb rd : LowReg)
  /-- LDRB, THUMB, 9: LDRB imm (T) (R492). -/
  | tLdrbImm (offset5 : BitVec 5) (rb rd : LowReg)
  /-- STRH, THUMB, 10: STRH imm (T) (R493). -/
  | tStrhImm (offset5 : BitVec 5) (rb rd : LowReg)
  /-- LDRH, THUMB, 10: LDRH imm (T) (R494). -/
  | tLdrhImm (offset5 : BitVec 5) (rb rd : LowReg)
  /-- STR, THUMB, 11: STR SP-rel (R495). -/
  | tStrSp (rd : LowReg) (word8 : BitVec 8)
  /-- LDR, THUMB, 11: LDR SP-rel (R496). -/
  | tLdrSp (rd : LowReg) (word8 : BitVec 8)
  /-- ADD, THUMB, 12: ADD PC-rel (R497). -/
  | tAddPc (rd : LowReg) (word8 : BitVec 8)
  /-- ADD, THUMB, 12: ADD SP-rel (R498). -/
  | tAddSp (rd : LowReg) (word8 : BitVec 8)
  /-- ADD, THUMB, 13: ADD SP imm (R499). -/
  | tAddSpImm (s : Bool) (sword7 : BitVec 7)
  /-- PUSH, THUMB, 14: PUSH (R500). -/
  | tPush (r : Bool) (list : BitVec 8)
  /-- POP, THUMB, 14: POP (R501). -/
  | tPop (r : Bool) (list : BitVec 8)
  /-- STMIA, THUMB, 15: STMIA (T) (R502). -/
  | tStmia (rb : LowReg) (list : BitVec 8)
  /-- LDMIA, THUMB, 15: LDMIA (T) (R503). -/
  | tLdmia (rb : LowReg) (list : BitVec 8)
  /-- B<cond>, THUMB, 16: B<cond> (T), cond 0xxx (R530). -/
  | tBcond0xxx (cond : Cond) (soffset8 : BitVec 8)
  /-- B<cond>, THUMB, 16: B<cond> (T), cond 10xx (R530). -/
  | tBcond10xx (cond : Cond) (soffset8 : BitVec 8)
  /-- B<cond>, THUMB, 16: B<cond> (T), cond 110x (R530). -/
  | tBcond110x (cond : Cond) (soffset8 : BitVec 8)
  /-- SWI, THUMB, 17: SWI (T) (R531). -/
  | tSwi (value8 : BitVec 8)
  /-- B, THUMB, 18: B (T) (R532). -/
  | tB (offset11 : BitVec 11)
  /-- BL, THUMB, 19: BL prefix (T) (R533). -/
  | tBlPrefix (offsetHi : BitVec 11)
  /-- BL, THUMB, 19: BL suffix (T) (R534). -/
  | tBlSuffix (offsetLo : BitVec 11)
  /-- UNDEF, THUMB, UNDEF 1011 0001 (R405). -/
  | tUndef10110001 (w : Half)
  /-- UNDEF, THUMB, UNDEF 1011 001x (R405). -/
  | tUndef1011001x (w : Half)
  /-- UNDEF, THUMB, UNDEF 1011 011x (R405). -/
  | tUndef1011011x (w : Half)
  /-- UNDEF, THUMB, UNDEF 1011 10xx (R405). -/
  | tUndef101110xx (w : Half)
  /-- UNDEF, THUMB, UNDEF 1011 111x (R405). -/
  | tUndef1011111x (w : Half)
  /-- UNDEF, THUMB, UNDEF 1101 1110 (R405). -/
  | tUndef11011110 (w : Half)
  /-- UNDEF, THUMB, UNDEF 11101 (R405). -/
  | tUndef11101 (w : Half)
  deriving DecidableEq, Repr

end Sys2Proof
end

