-- ==== Sys2Proof/Machine/State.lean ====
section
/-! DEFINITION. The machine's state as plain data (spec/10_state.md, the inventory R75, and the files it
names), the reasons a step can stop (00_scope.md R11), and the state after reset (10_state.md R80, R81,
R86; 70_reset_and_hazards.md R770, R771). -/

namespace Sys2Proof.Machine

open Sys2Proof

/-! ## Reasons to stop -/

/-- The cases 93_implementation_defined.md §1.1 lists as UNPREDICTABLE. -/
inductive UnpredCase where
  /-- Register shift by R15 (R272). -/
  | shiftByR15
  /-- Register-shift data processing writing R15 (R274). -/
  | regShiftWritesR15
  /-- SPSR access or S-bit use in User or System mode (R63, R275, R331, R332). -/
  | spsrInUserSystem
  /-- Multiply with R15 (R312). -/
  | multiplyR15
  /-- MUL or MLA with `Rd = Rm` (R312). -/
  | mulRdRm
  /-- Long multiply with `RdHi = RdLo` (R312). -/
  | mullRdHiRdLo
  /-- Long multiply with `RdHi` or `RdLo` equal to `Rm` (R312). -/
  | mullRdRm
  /-- MSR that would change T (R331). -/
  | msrWritesT
  /-- MRS to R15 (R332). -/
  | mrsToR15
  /-- MSR from R15 (R333). -/
  | msrFromR15
  /-- Offset register R15 (R350, R351). -/
  | offsetR15
  /-- Halfword post-index with W = 1 (R352). -/
  | halfPostIndexW
  /-- Write-back to R15 (R352). -/
  | writeBackR15
  /-- Load with write-back and `Rd = Rn` (R353). -/
  | loadWriteBackRd
  /-- LDRB to R15 (R358). -/
  | ldrbToR15
  /-- STRB of R15 (R359). -/
  | strbOfR15
  /-- LDRH to R15 (R363). -/
  | ldrhToR15
  /-- STRH of R15 (R364). -/
  | strhOfR15
  /-- LDRSB to R15 (R365). -/
  | ldrsbToR15
  /-- LDRSH to R15 (R366). -/
  | ldrshToR15
  /-- User-bank block transfer with write-back (R370). -/
  | userBankWriteBack
  /-- S-bit block transfer in User or System mode (R370). -/
  | sBitUserSystem
  /-- Block transfer with base R15 (R371). -/
  | blockBaseR15
  /-- SWP with R15 (R372). -/
  | swpR15
  /-- SWP with `Rn = Rm` or `Rn = Rd` (R372). -/
  | swpOverlap
  /-- THUMB format 5 with two low registers (R460). -/
  | format5TwoLow
  /-- THUMB BX with H1 = 1 (R464). -/
  | thumbBxH1
  deriving DecidableEq, Repr

/-- The features the spec refuses to model (93_implementation_defined.md §1.3). -/
inductive Feature where
  /-- STOP mode (60_exceptions.md R575). -/
  | stop
  /-- DMA3 video capture (61_timers_dma.md R622). -/
  | dma3VideoCapture
  deriving DecidableEq, Repr

/-- The model faults of 00_scope.md R11.  A faulted state is final. -/
inductive Fault where
  /-- Raised by an instruction in one of the UNPREDICTABLE cases when `UNPRED_POLICY = fault` (R12).  Safe: it stops
  where the silicon goes on. -/
  | unpredictable (c : UnpredCase)
  /-- Raised by MSR, by an SPSR restore and by an exception return that would place an invalid mode in the CPSR
  (10_state.md R61).  Safe. -/
  | invalidMode (m : BitVec 5)
  /-- Raised by an I/O write that asks for STOP or for DMA3 video capture (R575, R622).  Safe. -/
  | unmodelled (f : Feature)
  deriving DecidableEq, Repr

/-- Refusals. -/
inductive Refusal where
  /-- Raised by an arm of the dispatch whose instruction has no meaning yet.  Safe. -/
  | notModelled (mnemonic : String)
  deriving DecidableEq, Repr

/-! ## The CPU (10_state.md) -/

/-- The seven processor modes (10_state.md R61). -/
inductive Mode where
  | user | fiq | irq | supervisor | abort | undefined | system
  deriving DecidableEq, Repr

/-- The six register views: User and System share one (10_state.md R42). -/
inductive Bank where
  | usr | fiq | irq | svc | abt | und
  deriving DecidableEq, Repr

/-- A program status register: N, Z, C, V, I, F, T and the mode field.  Bits 27:8 are not stored
(10_state.md R60, R62). -/
structure Psr where
  n : Bool
  z : Bool
  c : Bool
  v : Bool
  i : Bool
  f : Bool
  t : Bool
  m : BitVec 5
  deriving DecidableEq, Repr

/-- The CPU: 30 of the 31 physical registers (R0..R7; R8..R12 of User; R8..R12 of FIQ; six R13; six R14), the 31st
being the program counter; the five SPSRs in the order FIQ, IRQ, Supervisor, Abort, Undefined; the CPSR; the
program counter and the two prefetched words (10_state.md R41, R50, R60, R63). -/
structure Cpu where
  regs  : Vector Word 30
  spsr  : Vector Psr 5
  cpsr  : Psr
  pc    : Word
  pipe0 : Word
  pipe1 : Word
  deriving DecidableEq, Repr

/-! ## The scheduler (61_timers_dma.md R602) -/

/-- The two sound FIFOs. -/
inductive FifoName where
  | a | b
  deriving DecidableEq, Repr

/-- The kinds of event.  `apuSample` and `romPrefetch` are never scheduled (R602). -/
inductive EventKind where
  | hdrawEnd
  | lineEnd
  | timer (i : Fin 4)
  | dma (c : Fin 4)
  | audioFifo (x : FifoName)
  | apuSample
  | romPrefetch
  deriving DecidableEq, Repr

/-- An entry of the event queue. -/
structure Event where
  cycle : Nat
  kind  : EventKind
  seq   : Nat
  deriving DecidableEq, Repr

/-! ## Devices -/

/-- A timer (61_timers_dma.md R610). -/
structure Timer where
  reload   : Half
  control  : Half
  counter0 : BitVec 17
  start    : Nat
  deriving DecidableEq, Repr

/-- A DMA channel: its registers and its internal state (61_timers_dma.md R620, R622). -/
structure DmaChannel where
  sad    : Word
  dad    : Word
  cntL   : Half
  cntH   : Half
  isrc   : Word
  idst   : Word
  icount : BitVec 17
  armed  : Bool
  deriving DecidableEq, Repr

/-- A sound FIFO: the queued bytes, oldest first, and the current sample (61_timers_dma.md R650). -/
structure Fifo where
  queue  : List Byte
  sample : Byte
  deriving DecidableEq, Repr

/-- Whether the line being drawn is in HDraw or HBlank (62_ppu.md R670). -/
inductive Phase where
  | hdraw | hblank
  deriving DecidableEq, Repr

/-- The affine parameters and reference points of BG2 or BG3 (62_ppu.md R670, R684, R685). -/
structure AffineBg where
  pa : Half
  pb : Half
  pc : Half
  pd : Half
  x  : BitVec 28
  y  : BitVec 28
  rx : BitVec 28
  ry : BitVec 28
  deriving DecidableEq, Repr

/-- The PPU's registers and position (62_ppu.md R670, R675..R688). -/
structure Ppu where
  vcount   : Fin 228
  phase    : Phase
  dispcnt  : Half
  greenswp : Half
  dispstat : Half
  bgcnt    : Vector Half 4
  bghofs   : Vector Half 4
  bgvofs   : Vector Half 4
  bg2      : AffineBg
  bg3      : AffineBg
  win0h    : Half
  win1h    : Half
  win0v    : Half
  win1v    : Half
  winin    : Half
  winout   : Half
  mosaic   : Half
  bldcnt   : Half
  bldalpha : Half
  bldy     : Half
  deriving DecidableEq, Repr

/-- The command-sequence states of the reference Flash device (20_memory.md R151). -/
inductive FlashStep where
  | ready | unlock1 | unlock2 | eraseArmed | eraseUnlock1 | eraseUnlock2 | program | bankSelect
  deriving DecidableEq, Repr

/-- The reference Flash device; its bytes stand in the memory list (20_memory.md R151). -/
structure Flash where
  bank   : Bool
  idMode : Bool
  step   : FlashStep
  deriving DecidableEq, Repr

/-- The reference EEPROM device: the bits of the command received so far, oldest first, the read-out buffer, and for an
EEPROM without a size whether it takes 14 address bits, once the first DMA3 transfer has decided it.  Its bytes stand
in the memory list (20_memory.md R152). -/
structure Eeprom where
  shift : List Bool
  out   : List Bool
  wide  : Option Bool
  deriving DecidableEq, Repr

/-- Everything outside the CPU: memory, the latches, the interrupt controller, the devices, the PPU, the scheduler,
the parameters, and three fields of the model's own, `cost`, `midDispatch` and `dmaPending`. -/
structure Sys where
  /-- The parameters of 00_scope.md R9; no step changes them. -/
  params        : Params
  /-- Every byte array of 20_memory.md, in one list in canonical form (log entry 1). -/
  mem           : List Host.Cell
  /-- The open-bus latch (20_memory.md R120). -/
  lastFetch     : Word
  /-- The address of the most recent fetch (20_memory.md R120). -/
  lastFetchAddr : Word
  /-- The BIOS latch (20_memory.md R120). -/
  biosLatch     : Word
  /-- Interrupt enable, request and master enable (60_exceptions.md R566..R568). -/
  ie            : Half
  iflag         : Half
  ime           : Bool
  /-- The power flags (10_state.md R70, R71). -/
  halted        : Bool
  stopped       : Bool
  /-- WAITCNT and POSTFLG (20_memory.md R123, R130). -/
  waitcnt       : Half
  postflg       : Bool
  /-- The plain storage registers of 20_memory.md R129, by I/O offset, in canonical form. -/
  storage       : List (Nat × Half)
  /-- SOUNDCNT_H (61_timers_dma.md R651). -/
  soundcntH     : Half
  timers        : Vector Timer 4
  dma           : Vector DmaChannel 4
  fifoA         : Fifo
  fifoB         : Fifo
  /-- KEYINPUT and KEYCNT (61_timers_dma.md R660, R661). -/
  keyinput      : Half
  keycnt        : Half
  ppu           : Ppu
  /-- The caller's framebuffer, by line and column (62_ppu.md R670, R740). -/
  fb            : Vector (Vector Half 240) 160
  flash         : Flash
  eeprom        : Eeprom
  /-- The state of a supplied `BackupDevice`, empty where there is none (20_memory.md R150). -/
  device        : List Byte
  /-- Cycles since power-on (61_timers_dma.md R600). -/
  now           : Nat
  /-- The event queue, least `(cycle, seq)` first (61_timers_dma.md R602). -/
  events        : List Event
  /-- The sequence number of the next insertion. -/
  nextSeq       : Nat
  /-- The end of the previous frame (70_reset_and_hazards.md R775). -/
  frameEndPrev  : Nat
  /-- The model's own: cycles charged to the current step and not yet added to `now` (log entry 6). -/
  cost          : Nat
  /-- The model's own: the previous step handed part of its event dispatch to this one (log entry 5). -/
  midDispatch   : Bool
  /-- The model's own: a DMA event whose handler has lower-numbered channels left to run, which goes on before any
  other event (61_timers_dma.md R639; log entry 5). -/
  dmaPending    : Option (Fin 4)
  deriving DecidableEq, Repr

/-- The machine. -/
structure State where
  cpu : Cpu
  sys : Sys
  deriving DecidableEq, Repr

/-! ## Reset -/

/-- All status bits zero. -/
def Psr.zero : Psr :=
  { n := false, z := false, c := false, v := false, i := false, f := false, t := false, m := 0#5 }

/-- The CPSR after reset: 0x000000D3, Supervisor, ARM state, I = F = 1 (10_state.md R80). -/
def Psr.reset : Psr := { Psr.zero with i := true, f := true, m := 0b10011#5 }

/-- A CPU with every register 0 and the CPSR of reset (10_state.md R80, R81, R86). -/
def Cpu.reset : Cpu :=
  { regs := Vector.replicate 30 0#32, spsr := Vector.replicate 5 Psr.zero, cpsr := Psr.reset,
    pc := 0#32, pipe0 := 0#32, pipe1 := 0#32 }

/-- A stopped timer (61_timers_dma.md R610). -/
def Timer.reset : Timer := { reload := 0#16, control := 0#16, counter0 := 0#17, start := 0 }

/-- An idle DMA channel (61_timers_dma.md R620, R622). -/
def DmaChannel.reset : DmaChannel :=
  { sad := 0#32, dad := 0#32, cntL := 0#16, cntH := 0#16, isrc := 0#32, idst := 0#32, icount := 0#17, armed := false }

/-- The identity transform (62_ppu.md R684, R685). -/
def AffineBg.reset : AffineBg :=
  { pa := 0x0100#16, pb := 0#16, pc := 0#16, pd := 0x0100#16, x := 0#28, y := 0#28, rx := 0#28, ry := 0#28 }

/-- The PPU at line 0, HDraw, forced blank (62_ppu.md R670, R680). -/
def Ppu.reset : Ppu :=
  { vcount := 0, phase := .hdraw, dispcnt := 0x0080#16, greenswp := 0#16, dispstat := 0#16,
    bgcnt := Vector.replicate 4 0#16, bghofs := Vector.replicate 4 0#16, bgvofs := Vector.replicate 4 0#16,
    bg2 := AffineBg.reset, bg3 := AffineBg.reset, win0h := 0#16, win1h := 0#16, win0v := 0#16, win1v := 0#16,
    winin := 0#16, winout := 0#16, mosaic := 0#16, bldcnt := 0#16, bldalpha := 0#16, bldy := 0#16 }

/-- The system at power-on, after the reset fetches of a BIOS image whose words at 0 and 4 are 0
(70_reset_and_hazards.md R770, R771; 20_memory.md R121, R151, R152).  The framebuffer's contents before the first
line is rendered are the caller's; 0 here (log entry 14). -/
def Sys.reset : Sys :=
  { params := Params.reset, mem := [], lastFetch := 0#32, lastFetchAddr := 4#32, biosLatch := 0#32,
    ie := 0#16, iflag := 0#16, ime := false, halted := false, stopped := false, waitcnt := 0#16, postflg := false,
    storage := [], soundcntH := 0#16, timers := Vector.replicate 4 Timer.reset,
    dma := Vector.replicate 4 DmaChannel.reset, fifoA := { queue := [], sample := 0#8 },
    fifoB := { queue := [], sample := 0#8 }, keyinput := 0x03FF#16, keycnt := 0#16, ppu := Ppu.reset,
    fb := Vector.replicate 160 (Vector.replicate 240 0#16),
    flash := { bank := false, idMode := false, step := .ready }, eeprom := { shift := [], out := [], wide := none },
    device := [],
    now := 0, events := [{ cycle := 1006, kind := .hdrawEnd, seq := 0 }], nextSeq := 1, frameEndPrev := 0, cost := 0,
    midDispatch := false, dmaPending := none }

/-- The machine right after reset (70_reset_and_hazards.md R770, R771), with no BIOS or ROM image loaded (log
entry 2). -/
def State.reset : State := { cpu := Cpu.reset, sys := Sys.reset }

end Sys2Proof.Machine
end

