-- ==== Sys2Proof/Machine/Memory.lean ====
section
/-! DEFINITION. Sparse tables in canonical form, and the byte arrays of spec/20_memory.md in one such table:
where each array stands, what an unlisted byte reads as, and little-endian access (R101, R102). -/

namespace Sys2Proof.Machine

open Sys2Proof

/-! ## Sparse tables: key and value pairs, keys strictly rising, no value equal to the blank one -/

/-- The value at a key, `blank` where the key is not listed. -/
def Sparse.get (blank : α) : List (Nat × α) → Nat → α
  | [], _ => blank
  | (k, v) :: rest, a => if k = a then v else Sparse.get blank rest a

/-- The table with the pair `(a, v)` in its place. -/
def Sparse.insert (a : Nat) (v : α) : List (Nat × α) → List (Nat × α)
  | [] => [(a, v)]
  | (k, w) :: rest =>
      if a < k then (a, v) :: (k, w) :: rest
      else if a = k then (a, v) :: rest
      else (k, w) :: Sparse.insert a v rest

/-- The table without the key `a`. -/
def Sparse.erase (a : Nat) : List (Nat × α) → List (Nat × α)
  | [] => []
  | (k, w) :: rest => if k = a then Sparse.erase a rest else (k, w) :: Sparse.erase a rest

/-- The table with `v` at the key `a`: writing the blank value removes the entry. -/
def Sparse.set [DecidableEq α] (blank : α) (l : List (Nat × α)) (a : Nat) (v : α) : List (Nat × α) :=
  if v = blank then Sparse.erase a l else Sparse.insert a v l

/-- The table without the keys in `lo ≤ key < hi`. -/
def Sparse.eraseRange (lo hi : Nat) : List (Nat × α) → List (Nat × α)
  | [] => []
  | (k, w) :: rest =>
      if lo ≤ k ∧ k < hi then Sparse.eraseRange lo hi rest else (k, w) :: Sparse.eraseRange lo hi rest

/-- The canonical form: keys strictly rising, and no value equal to what its key reads as unlisted. -/
abbrev Sparse.wf (blank : Nat → α) (l : List (Nat × α)) : Prop :=
  l.Pairwise (fun x y => x.1 < y.1) ∧ ∀ x ∈ l, x.2 ≠ blank x.1

/-! ## Where the byte arrays stand (20_memory.md R105) -/

/-- The key of byte `o` of the BIOS image. -/
def biosKey (o : Nat) : Nat := o
/-- The key of byte `o` of EWRAM. -/
def ewramKey (o : Nat) : Nat := 0x02000000 + o
/-- The key of byte `o` of IWRAM. -/
def iwramKey (o : Nat) : Nat := 0x03000000 + o
/-- The key of byte `o` of palette RAM. -/
def pramKey (o : Nat) : Nat := 0x05000000 + o
/-- The key of byte `o` of VRAM. -/
def vramKey (o : Nat) : Nat := 0x06000000 + o
/-- The key of byte `o` of OAM. -/
def oamKey (o : Nat) : Nat := 0x07000000 + o
/-- The key of byte `o` of the ROM image. -/
def romKey (o : Nat) : Nat := 0x08000000 + o
/-- The key of byte `o` of the EEPROM. -/
def eepromKey (o : Nat) : Nat := 0x0D000000 + o
/-- The key of byte `o` of the SRAM. -/
def sramKey (o : Nat) : Nat := 0x0E000000 + o
/-- The key of byte `o` of the Flash. -/
def flashKey (o : Nat) : Nat := 0x0F000000 + o

/-- Whether a key stands for a byte of the EEPROM or of the Flash. -/
def erasedKey (k : Nat) : Bool := (0x0D000000 ≤ k && k < 0x0E000000) || 0x0F000000 ≤ k

/-- What an unlisted byte reads as: 0xFF in the EEPROM and the Flash (20_memory.md R151, R152), 0 in every other array
(70_reset_and_hazards.md R771, 20_memory.md R153; for the BIOS and ROM images log entry 2). -/
def Memory.blank (k : Nat) : Byte := if erasedKey k then 0xFF#8 else 0#8

/-! ## Bytes, halfwords and words -/

/-- The byte at a key. -/
def Memory.read (m : List Host.Cell) (k : Nat) : Byte := Sparse.get (Memory.blank k) m k

/-- Memory with a byte written. -/
def Memory.write (m : List Host.Cell) (k : Nat) (v : Byte) : List Host.Cell := Sparse.set (Memory.blank k) m k v

/-- The canonical form of the memory list. -/
abbrev Memory.wf (m : List Host.Cell) : Prop := Sparse.wf Memory.blank m

/-- `LE_2` (20_memory.md R102). -/
def Memory.read16 (m : List Host.Cell) (k : Nat) : Half := Memory.read m (k + 1) ++ Memory.read m k

/-- `LE_4` (20_memory.md R102). -/
def Memory.read32 (m : List Host.Cell) (k : Nat) : Word := Memory.read16 m (k + 2) ++ Memory.read16 m k

/-- `StoreLE_2` (20_memory.md R102). -/
def Memory.write16 (m : List Host.Cell) (k : Nat) (v : Half) : List Host.Cell :=
  Memory.write (Memory.write m k (v.extractLsb' 0 8)) (k + 1) (v.extractLsb' 8 8)

/-- `StoreLE_4` (20_memory.md R102). -/
def Memory.write32 (m : List Host.Cell) (k : Nat) (v : Word) : List Host.Cell :=
  Memory.write16 (Memory.write16 m k (v.extractLsb' 0 16)) (k + 2) (v.extractLsb' 16 16)

/-- The width of an access (20_memory.md R160). -/
inductive Width where
  | byte | half | word
  deriving DecidableEq, Repr

/-- The bytes an access moves. -/
def Width.bytes : Width → Nat
  | .byte => 1
  | .half => 2
  | .word => 4

/-- `addr AND NOT (n - 1)` (20_memory.md R103). -/
def Width.align (w : Width) (a : Word) : Word :=
  match w with
  | .byte => a
  | .half => a &&& 0xFFFFFFFE#32
  | .word => a &&& 0xFFFFFFFC#32

/-- `LE_n`, zero-extended (20_memory.md R102). -/
def Memory.readLE (m : List Host.Cell) (w : Width) (k : Nat) : Word :=
  match w with
  | .byte => (Memory.read m k).zeroExtend 32
  | .half => (Memory.read16 m k).zeroExtend 32
  | .word => Memory.read32 m k

/-- `StoreLE_n` (20_memory.md R102). -/
def Memory.writeLE (m : List Host.Cell) (w : Width) (k : Nat) (v : Word) : List Host.Cell :=
  match w with
  | .byte => Memory.write m k (v.extractLsb' 0 8)
  | .half => Memory.write16 m k (v.extractLsb' 0 16)
  | .word => Memory.write32 m k v

/-- Take the `n` bytes of a 32-bit latch at the lane of the address: `(latch >> 8·(a AND 3)) AND (2^(8n) - 1)`
(20_memory.md R108, R116). -/
def Width.lane (w : Width) (latch a : Word) : Word :=
  let shifted := latch >>> (8 * (a &&& 3#32).toNat)
  match w with
  | .byte => shifted &&& 0xFF#32
  | .half => shifted &&& 0xFFFF#32
  | .word => shifted

end Sys2Proof.Machine
end

