-- ==== Sys2Proof/Machine/Backup.lean ====
section
/-! DEFINITION. The GamePak backup devices (spec/20_memory.md R117..R119, R150..R153): SRAM, the reference
Flash, the reference EEPROM, and a supplied device. -/

namespace Sys2Proof.Machine

open Sys2Proof

/-! ## The reference Flash (R151) -/

/-- Whether the backup device is a Flash. -/
def Backup.isFlash : BackupKind → Bool
  | .flash64k | .flash128k => true
  | .none | .sram | .eeprom | .eeprom512 | .eeprom8k => false

/-- Whether the backup device is an EEPROM. -/
def Backup.isEeprom : BackupKind → Bool
  | .eeprom | .eeprom512 | .eeprom8k => true
  | .none | .sram | .flash64k | .flash128k => false

/-- The byte offset of the selected bank. -/
def Flash.bankBase (f : Flash) : Nat := if f.bank then 0x10000 else 0

/-- `read8(b)` (R151). -/
def Sys.flashRead (y : Sys) (b : Nat) : Byte :=
  if y.flash.idMode && b == 0 then y.params.flashId.extractLsb' 0 8
  else if y.flash.idMode && b == 1 then y.params.flashId.extractLsb' 8 8
  else Memory.read y.mem (flashKey (y.flash.bankBase + b))

/-- The Flash moves to a state of its command sequence. -/
def Sys.flashGoto (st : FlashStep) (y : Sys) : Sys := { y with flash := { y.flash with step := st } }

/-- `write8(b, d)` in state `Unlock2` (R151). -/
def Sys.flashCommand (d : Byte) (y : Sys) : Sys :=
  match d.toNat with
  | 0x90 => { y with flash := { y.flash with step := .ready, idMode := true } }
  | 0xF0 => { y with flash := { y.flash with step := .ready, idMode := false } }
  | 0x80 => y.flashGoto .eraseArmed
  | 0xA0 => y.flashGoto .program
  | 0xB0 => y.flashGoto (if y.params.backup = .flash128k then .bankSelect else .ready)
  | _ => y.flashGoto .ready

/-- `write8(b, d)` (R151).  Every unlisted `(state, b, d)` returns to `Ready` and changes nothing else. -/
def Sys.flashWrite (y : Sys) (b : Nat) (d : Byte) : Sys :=
  match y.flash.step with
  | .ready =>
      if b = 0x5555 ∧ d = 0xAA#8 then y.flashGoto .unlock1
      else if d = 0xF0#8 then { y with flash := { y.flash with idMode := false } }
      else y
  | .unlock1 => y.flashGoto (if b = 0x2AAA ∧ d = 0x55#8 then .unlock2 else .ready)
  | .unlock2 => if b = 0x5555 then y.flashCommand d else y.flashGoto .ready
  | .eraseArmed => y.flashGoto (if b = 0x5555 ∧ d = 0xAA#8 then .eraseUnlock1 else .ready)
  | .eraseUnlock1 => y.flashGoto (if b = 0x2AAA ∧ d = 0x55#8 then .eraseUnlock2 else .ready)
  | .eraseUnlock2 =>
      if b = 0x5555 ∧ d = 0x10#8 then
        { y with mem := Sparse.eraseRange (flashKey 0) (flashKey 0x20000) y.mem,
                 flash := { y.flash with step := .ready } }
      else if d = 0x30#8 then
        let sector := flashKey (y.flash.bankBase + b / 0x1000 % 16 * 0x1000)
        { y with mem := Sparse.eraseRange sector (sector + 0x1000) y.mem,
                 flash := { y.flash with step := .ready } }
      else y.flashGoto .ready
  | .program =>
      { y with mem := Memory.write y.mem (flashKey (y.flash.bankBase + b)) d,
               flash := { y.flash with step := .ready } }
  | .bankSelect =>
      if b = 0 then { y with flash := { y.flash with bank := d.getLsbD 0, step := .ready } }
      else y.flashGoto .ready

/-! ## The reference EEPROM (R152) -/

/-- Whether the device takes 14 address bits: by its kind, or, without a size, as its first DMA3 transfer decided
(R152); before that transfer a free value (log entry 13). -/
def Sys.eepromWide (y : Sys) : Bool :=
  match y.params.backup with
  | .eeprom8k => true
  | .eeprom => y.eeprom.wide.getD (Config.eepromWide 0)
  | .none | .sram | .eeprom512 | .flash64k | .flash128k => false

/-- `abits` (R152). -/
def Sys.eepromAddressBits (y : Sys) : Nat := if y.eepromWide then 14 else 6

/-- The 8-byte blocks of the device (R152). -/
def Sys.eepromBlocks (y : Sys) : Nat := if y.eepromWide then 1024 else 64

/-- Whether a first DMA3 transfer of so many units means 14 address bits: 9 or 73 units mean 6, 17 or 81 mean 14
(R152); of any other number a free value (log entry 13). -/
def eepromWideOf (units : Nat) : Bool :=
  match units with
  | 9 => false
  | 73 => false
  | 17 => true
  | 81 => true
  | n => Config.eepromWide n

/-- The number whose bits are given, most significant first. -/
def bitsToNat (l : List Bool) : Nat := l.foldl (fun acc b => 2 * acc + b.toNat) 0

/-- The bits of a byte, most significant first. -/
def byteBits (b : Byte) : List Bool :=
  [b.getLsbD 7, b.getLsbD 6, b.getLsbD 5, b.getLsbD 4, b.getLsbD 3, b.getLsbD 2, b.getLsbD 1, b.getLsbD 0]

/-- The 64 bits of a block, the most significant bit of the lowest byte first. -/
def eepromBlockBits (m : List Host.Cell) (base : Nat) : Nat → List Bool
  | 0 => []
  | n + 1 => byteBits (Memory.read m base) ++ eepromBlockBits m (base + 1) n

/-- Store the bits into the bytes from `base` on, eight bits to a byte. -/
def eepromStoreBits (m : List Host.Cell) (base : Nat) (bits : List Bool) : Nat → List Host.Cell
  | 0 => m
  | n + 1 => eepromStoreBits (Memory.write m base (BitVec.ofNat 8 (bitsToNat (bits.take 8)))) (base + 1) (bits.drop 8) n

/-- The key of the block that the address bits of a command name; an address past the device wraps (log entry 13). -/
def Sys.eepromBlockKey (y : Sys) (bits : List Bool) : Nat :=
  eepromKey (8 * (bitsToNat ((bits.drop 2).take y.eepromAddressBits) % y.eepromBlocks))

/-- Clear the incoming bits. -/
def Sys.eepromRestart (y : Sys) : Sys := { y with eeprom := { y.eeprom with shift := [] } }

/-- `eeprom_write_bit(bit)` (R152): collect the bit; a complete read request loads the read-out buffer, a complete
write request stores the block and leaves the buffer empty, which reads as ready.  A stream that is no
command is dropped (log entry 13). -/
def Sys.eepromWriteBit (b : Bool) (y : Sys) : Sys :=
  let bits := y.eeprom.shift ++ [b]
  let abits := y.eepromAddressBits
  let collecting : Sys := { y with eeprom := { y.eeprom with shift := bits } }
  match bits with
  | true :: true :: _ =>
      if bits.length < abits + 3 then collecting
      else if b then y.eepromRestart
      else { y with eeprom := { y.eeprom with shift := [], out := [false, false, false, false] ++
                                              eepromBlockBits y.mem (y.eepromBlockKey bits) 8 } }
  | true :: false :: _ =>
      if bits.length < abits + 67 then collecting
      else if b then y.eepromRestart
      else { y with mem := eepromStoreBits y.mem (y.eepromBlockKey bits) ((bits.drop (2 + abits)).take 64) 8,
                    eeprom := { y.eeprom with shift := [], out := [] } }
  | [true] => collecting
  | _ => y.eepromRestart

/-- `eeprom_read_bit()` (R152): the next read-out bit, or 1 when the buffer is empty. -/
def Sys.eepromReadBit (y : Sys) : Bool × Sys :=
  match y.eeprom.out with
  | [] => (true, y)
  | b :: rest => (b, { y with eeprom := { y.eeprom with out := rest } })

/-! ## The parameter `BackupDevice` (R150) -/

/-- `BackupDevice.read8(b)`. -/
def Sys.deviceRead8 (y : Sys) (b : Nat) : Byte :=
  match y.params.device with
  | .reference => y.flashRead b
  | .supplied => Config.deviceRead8 y.device b

/-- `BackupDevice.write8(b, d)`. -/
def Sys.deviceWrite8 (y : Sys) (b : Nat) (d : Byte) : Sys :=
  match y.params.device with
  | .reference => y.flashWrite b d
  | .supplied => { y with device := Config.deviceWrite8 y.device b d }

/-- `BackupDevice.eeprom_read_bit()`. -/
def Sys.deviceReadBit (y : Sys) : Bool × Sys :=
  match y.params.device with
  | .reference => y.eepromReadBit
  | .supplied => ((Config.deviceReadBit y.device).1, { y with device := (Config.deviceReadBit y.device).2 })

/-- `BackupDevice.eeprom_write_bit(bit)`. -/
def Sys.deviceWriteBit (b : Bool) (y : Sys) : Sys :=
  match y.params.device with
  | .reference => y.eepromWriteBit b
  | .supplied => { y with device := Config.deviceWriteBit y.device b }

/-- Whether an aligned address lies in the EEPROM window (R119). -/
def Sys.inEepromWindow (y : Sys) (a : Word) : Bool :=
  Backup.isEeprom y.params.backup &&
    (if y.params.romSize ≤ 0x1000000 then a.toNat / 0x1000000 = 0x0D
     else decide (0x0DFFFF00 ≤ a.toNat) && decide (a.toNat ≤ 0x0DFFFFFF))

/-- The size of an EEPROM without one, decided by the first DMA3 transfer into the window, of so many units from `dst`
on (R152). -/
def Sys.sizeEeprom (c : Fin 4) (dst : Word) (units : Nat) (y : Sys) : Sys :=
  if c.val == 3 && y.params.backup == .eeprom && y.eeprom.wide.isNone && y.inEepromWindow dst then
    { y with eeprom := { y.eeprom with wide := some (eepromWideOf units) } }
  else y

/-! ## Regions 0x0E and 0x0F -/

/-- The byte `d` of `BackupRead` (R117). -/
def Sys.backupByte (y : Sys) (b : Nat) : Byte :=
  match y.params.backup with
  | .sram => Memory.read y.mem (sramKey (b % 0x8000))
  | .flash64k => y.deviceRead8 b
  | .flash128k => y.deviceRead8 b
  | .none => 0xFF#8
  | .eeprom => 0xFF#8
  | .eeprom512 => 0xFF#8
  | .eeprom8k => 0xFF#8

/-- `BackupRead(a, n)` (R117): the byte in every lane. -/
def Sys.backupRead (y : Sys) (w : Width) (a : Word) : Word :=
  let d := y.backupByte (a.toNat % 0x10000)
  match w with
  | .byte => d.zeroExtend 32
  | .half => (d ++ d).zeroExtend 32
  | .word => d ++ d ++ d ++ d

/-- `BackupWrite(a, n, v)` (R118): the low byte, whatever the width. -/
def Sys.backupWrite (y : Sys) (a : Word) (d : Byte) : Sys :=
  let b := a.toNat % 0x10000
  match y.params.backup with
  | .sram => { y with mem := Memory.write y.mem (sramKey (b % 0x8000)) d }
  | .flash64k => y.deviceWrite8 b d
  | .flash128k => y.deviceWrite8 b d
  | .none => y
  | .eeprom => y
  | .eeprom512 => y
  | .eeprom8k => y

end Sys2Proof.Machine
end

