-- ==== Sys2Proof/Machine/Scheduler.lean ====
section
/-! DEFINITION. The event queue (spec/61_timers_dma.md R602): `schedule`, `cancel` and `peek`. -/

namespace Sys2Proof.Machine

/-- The queue with an entry inserted after every entry whose cycle is not later. -/
def Events.insert (e : Event) : List Event → List Event
  | [] => [e]
  | x :: rest => if x.cycle ≤ e.cycle then x :: Events.insert e rest else e :: x :: rest

/-- The queue without the entries of a kind. -/
def Events.remove (k : EventKind) : List Event → List Event
  | [] => []
  | x :: rest => if x.kind = k then Events.remove k rest else x :: Events.remove k rest

/-- `cancel(kind)`. -/
def Sys.cancel (k : EventKind) (y : Sys) : Sys := { y with events := Events.remove k y.events }

/-- `schedule(at, kind)`: each kind is scheduled at most once, so the kind is cancelled first (R602). -/
def Sys.schedule (cycle : Nat) (k : EventKind) (y : Sys) : Sys :=
  { y with events := Events.insert { cycle := cycle, kind := k, seq := y.nextSeq } (Events.remove k y.events),
           nextSeq := y.nextSeq + 1 }

/-- Whether an entry is due: `peek().cycle <= now` (R605). -/
def Sys.eventDue (y : Sys) : Bool :=
  match y.events with
  | [] => false
  | e :: _ => e.cycle ≤ y.now

/-- Whether an entry of a kind at a cycle `<= now` is queued (R639). -/
def Sys.kindDue (k : EventKind) (y : Sys) : Bool := y.events.any (fun e => e.kind = k && e.cycle ≤ y.now)

/-- A source sets its bit of IF (60_exceptions.md R567). -/
def Sys.requestIrq (bit : Nat) (y : Sys) : Sys := { y with iflag := y.iflag ||| (1#16 <<< bit) }

/-- `(IE AND IF)[13:0] != 0` (10_state.md R70). -/
def Sys.wake (y : Sys) : Bool := (y.ie &&& y.iflag &&& 0x3FFF#16) != 0#16

/-- `irq_pending` (10_state.md R70). -/
def Sys.irqPending (y : Sys) : Bool := y.ime && y.wake

end Sys2Proof.Machine
end

