-- ==== Sys2Proof/Machine/Timers.lean ====
section
/-! DEFINITION. The four timers (spec/61_timers_dma.md R610..R613): the running counter and the control
write.  Overflow stands in Events.lean, since it can start DMA. -/

namespace Sys2Proof.Machine

open Sys2Proof

/-- The timer `i`. -/
def Sys.timer (y : Sys) (i : Fin 4) : Timer := y.timers[i.val]

/-- The system with timer `i` replaced. -/
def Sys.setTimer (i : Fin 4) (tm : Timer) (y : Sys) : Sys := { y with timers := y.timers.set i.val tm }

/-- TMiCNT_H bit 7 (R611). -/
def Timer.enabled (tm : Timer) : Bool := tm.control.getLsbD 7

/-- TMiCNT_H bit 2, ignored for timer 0 (R611). -/
def Timer.cascaded (i : Fin 4) (tm : Timer) : Bool := tm.control.getLsbD 2 && i.val != 0

/-- Enabled and not cascaded (R612). -/
def Timer.freeCounting (i : Fin 4) (tm : Timer) : Bool := tm.enabled && !tm.cascaded i

/-- The prescaler in cycles (R611). -/
def Timer.prescale (tm : Timer) : Nat :=
  match (tm.control.extractLsb' 0 2).toNat with
  | 0 => 1
  | 1 => 64
  | 2 => 256
  | _ => 1024

/-- `TimerValue(i, t)` (R612). -/
def Timer.value (i : Fin 4) (t : Nat) (tm : Timer) : Half :=
  if tm.freeCounting i then
    let k := (t - tm.start) / tm.prescale
    let first := 0x10000 - tm.counter0.toNat
    if k < first then BitVec.ofNat 16 (tm.counter0.toNat + k)
    else BitVec.ofNat 16 (tm.reload.toNat + (k - first) % (0x10000 - tm.reload.toNat))
  else tm.counter0.truncate 16

/-- The cycle of the next overflow of a free-counting timer (R613). -/
def Timer.overflowAt (tm : Timer) : Nat := tm.start + tm.prescale * (0x10000 - tm.counter0.toNat)

/-- Whether a new control changes the prescaler or the count-up bit, which is ignored for timer 0 (R611, R613). -/
def Timer.rephases (i : Fin 4) (new : Half) (tm : Timer) : Bool :=
  tm.control.extractLsb' 0 2 != new.extractLsb' 0 2 || tm.cascaded i != ({ tm with control := new } : Timer).cascaded i

/-- The timer after a write of its control at time `t` (R613). -/
def Timer.writeControl (i : Fin 4) (t : Nat) (new : Half) (tm : Timer) : Timer :=
  let running := tm.enabled
  let frozen := (tm.value i t).zeroExtend 17
  if !running && new.getLsbD 7 then
    { tm with control := new, counter0 := tm.reload.zeroExtend 17, start := t }
  else if running && !new.getLsbD 7 then
    { tm with control := new, counter0 := frozen }
  else if running && tm.rephases i new then
    { tm with control := new, counter0 := frozen, start := t }
  else { tm with control := new }

/-- A write of TMiCNT_H at time `now`, with the event of the timer rescheduled (R613). -/
def Sys.writeTimerControl (i : Fin 4) (new : Half) (y : Sys) : Sys :=
  let tm := (y.timer i).writeControl i y.now new
  let y := (y.setTimer i tm).cancel (.timer i)
  if tm.freeCounting i then y.schedule tm.overflowAt (.timer i) else y

end Sys2Proof.Machine
end

