-- ==== Sys2Proof/Machine/Io.lean ====
section
/-! DEFINITION. The I/O registers (spec/20_memory.md R125..R130): the map from offsets to registers R128,
the 16-bit read and write of each register, and the accesses of every width R126.  The fields and side
effects are those of 60_exceptions.md, 61_timers_dma.md and 62_ppu.md. -/

namespace Sys2Proof.Machine

open Sys2Proof

/-- The affine backgrounds. -/
inductive AffineName where
  | bg2 | bg3
  deriving DecidableEq, Repr

/-- The registers of an affine background, in the order of their offsets (62_ppu.md R684, R685). -/
inductive AffineReg where
  | pa | pb | pc | pd | xl | xh | yl | yh
  deriving DecidableEq, Repr

/-- The 16-bit I/O registers of 20_memory.md R128. -/
inductive IoReg where
  | dispcnt | greenswp | dispstat | vcount
  | bgcnt (x : Fin 4) | bghofs (x : Fin 4) | bgvofs (x : Fin 4)
  | affine (b : AffineName) (r : AffineReg)
  | win0h | win1h | win0v | win1v | winin | winout | mosaic | bldcnt | bldalpha | bldy
  | soundcntH
  | fifo (x : FifoName)
  | dmaSad (c : Fin 4) (high : Bool) | dmaDad (c : Fin 4) (high : Bool) | dmaCntL (c : Fin 4) | dmaCntH (c : Fin 4)
  | tmCntL (i : Fin 4) | tmCntH (i : Fin 4)
  | keyinput | keycnt | ie | iflag | waitcnt | ime | postflgHaltcnt
  | storage (o : Nat)
  | unused
  deriving DecidableEq, Repr

/-- A remainder by four as an index. -/
def index4 (n : Nat) : Fin 4 := ⟨n % 4, Nat.mod_lt n (by decide)⟩

/-- The affine register at a halfword index 0..7. -/
def AffineReg.ofIndex (k : Nat) : AffineReg :=
  match k with
  | 0 => .pa
  | 1 => .pb
  | 2 => .pc
  | 3 => .pd
  | 4 => .xl
  | 5 => .xh
  | 6 => .yl
  | _ => .yh

/-- The register of a DMA channel at a halfword index 0..5 (61_timers_dma.md R620). -/
def IoReg.ofDma (c : Fin 4) (k : Nat) : IoReg :=
  match k with
  | 0 => .dmaSad c false
  | 1 => .dmaSad c true
  | 2 => .dmaDad c false
  | 3 => .dmaDad c true
  | 4 => .dmaCntL c
  | _ => .dmaCntH c

/-- The display registers below 0x060 by halfword index (20_memory.md R128). -/
def IoReg.ofDisplay (k : Nat) : IoReg :=
  match k with
  | 0x00 => .dispcnt
  | 0x01 => .greenswp
  | 0x02 => .dispstat
  | 0x03 => .vcount
  | 0x20 => .win0h
  | 0x21 => .win1h
  | 0x22 => .win0v
  | 0x23 => .win1v
  | 0x24 => .winin
  | 0x25 => .winout
  | 0x26 => .mosaic
  | 0x28 => .bldcnt
  | 0x29 => .bldalpha
  | 0x2A => .bldy
  | _ =>
      if k < 0x08 then .bgcnt (index4 k)
      else if k < 0x10 then (if k % 2 = 0 then .bghofs (index4 (k / 2)) else .bgvofs (index4 (k / 2)))
      else if k < 0x18 then .affine .bg2 (AffineReg.ofIndex (k % 8))
      else if k < 0x20 then .affine .bg3 (AffineReg.ofIndex (k % 8))
      else .unused

/-- The register at an even I/O offset below 0x400 (20_memory.md R128).  An offset that the map lists nowhere is taken
as unused (log entry 15). -/
def IoReg.ofOffset (o : Nat) : IoReg :=
  if o < 0x060 then IoReg.ofDisplay (o / 2)
  else if o = 0x082 then .soundcntH
  else if o < 0x0A0 then .storage o
  else if o < 0x0A4 then .fifo .a
  else if o < 0x0A8 then .fifo .b
  else if o < 0x0B0 then .unused
  else if o < 0x0E0 then IoReg.ofDma (index4 ((o - 0x0B0) / 12)) ((o - 0x0B0) / 2 % 6)
  else if o < 0x100 then .unused
  else if o < 0x110 then (if o % 4 = 0 then .tmCntL (index4 (o / 4)) else .tmCntH (index4 (o / 4)))
  else if o < 0x120 then .unused
  else if o < 0x12C then .storage o
  else if o = 0x130 then .keyinput
  else if o = 0x132 then .keycnt
  else if o = 0x134 then .storage o
  else if o = 0x140 then .storage o
  else if 0x150 ≤ o ∧ o < 0x15A then .storage o
  else if o = 0x200 then .ie
  else if o = 0x202 then .iflag
  else if o = 0x204 then .waitcnt
  else if o = 0x208 then .ime
  else if o = 0x300 then .postflgHaltcnt
  else .unused

/-! ## The default write (20_memory.md R127) -/

/-- `(X AND NOT (lanes AND Wm)) OR (value16 AND lanes AND Wm)` (20_memory.md R127). -/
def mergeLanes (wm old value lanes : Half) : Half := (old &&& ~~~(lanes &&& wm)) ||| (value &&& lanes &&& wm)

/-- The low or the high half of a word register. -/
def wordHalf (high : Bool) (v : Word) : Half := if high then v.extractLsb' 16 16 else v.extractLsb' 0 16

/-- A word register with one half replaced. -/
def setWordHalf (high : Bool) (v : Word) (h : Half) : Word :=
  if high then h ++ v.extractLsb' 0 16 else v.extractLsb' 16 16 ++ h

/-! ## PPU registers (62_ppu.md) -/

/-- The affine background of a name. -/
def Ppu.affine (p : Ppu) : AffineName → AffineBg
  | .bg2 => p.bg2
  | .bg3 => p.bg3

/-- The PPU with an affine background replaced. -/
def Ppu.setAffine (b : AffineName) (g : AffineBg) (p : Ppu) : Ppu :=
  match b with
  | .bg2 => { p with bg2 := g }
  | .bg3 => { p with bg3 := g }

/-- A write of the low half of a reference register (62_ppu.md R685). -/
def refLow (old : BitVec 28) (value lanes : Half) : BitVec 28 :=
  old.extractLsb' 16 12 ++ mergeLanes 0xFFFF#16 (old.extractLsb' 0 16) value lanes

/-- A write of the high half of a reference register; bits 15:12 are ignored (62_ppu.md R685). -/
def refHigh (old : BitVec 28) (value lanes : Half) : BitVec 28 :=
  (mergeLanes 0x0FFF#16 ((old.extractLsb' 16 12).zeroExtend 16) value lanes).truncate 12 ++ old.extractLsb' 0 16

/-- A write of an affine register: a reference register is copied into its internal point (62_ppu.md R684, R685). -/
def AffineBg.write (r : AffineReg) (value lanes : Half) (g : AffineBg) : AffineBg :=
  match r with
  | .pa => { g with pa := mergeLanes 0xFFFF#16 g.pa value lanes }
  | .pb => { g with pb := mergeLanes 0xFFFF#16 g.pb value lanes }
  | .pc => { g with pc := mergeLanes 0xFFFF#16 g.pc value lanes }
  | .pd => { g with pd := mergeLanes 0xFFFF#16 g.pd value lanes }
  | .xl => { g with x := refLow g.x value lanes, rx := refLow g.x value lanes }
  | .xh => { g with x := refHigh g.x value lanes, rx := refHigh g.x value lanes }
  | .yl => { g with y := refLow g.y value lanes, ry := refLow g.y value lanes }
  | .yh => { g with y := refHigh g.y value lanes, ry := refHigh g.y value lanes }

/-! ## DMA registers (61_timers_dma.md R620..R622) -/

/-- The channel `c`. -/
def Sys.dmaChannel (y : Sys) (c : Fin 4) : DmaChannel := y.dma[c.val]

/-- The system with channel `c` replaced. -/
def Sys.setDma (c : Fin 4) (d : DmaChannel) (y : Sys) : Sys := { y with dma := y.dma.set c.val d }

/-- The write mask of the high half of DMAcSAD (R620). -/
def dmaSadHighMask (c : Fin 4) : Half := if c.val = 0 then 0x07FF#16 else 0x0FFF#16

/-- The write mask of the high half of DMAcDAD (R620). -/
def dmaDadHighMask (c : Fin 4) : Half := if c.val = 3 then 0x0FFF#16 else 0x07FF#16

/-- The write mask of DMAcCNT_L (R620). -/
def dmaCntLMask (c : Fin 4) : Half := if c.val = 3 then 0xFFFF#16 else 0x3FFF#16

/-- The write mask of DMAcCNT_H (R620). -/
def dmaCntHMask (c : Fin 4) : Half := if c.val = 3 then 0xFFE0#16 else 0xF7E0#16

/-- The four start timings (R621). -/
inductive DmaTiming where
  | immediate | vblank | hblank | special
  deriving DecidableEq, Repr

/-- DMAcCNT_H bits 13:12 (R621). -/
def DmaTiming.of (cntH : Half) : DmaTiming :=
  match (cntH.extractLsb' 12 2).toNat with
  | 0 => .immediate
  | 1 => .vblank
  | 2 => .hblank
  | _ => .special

/-- `Count(c)` (R622). -/
def DmaChannel.count (c : Fin 4) (d : DmaChannel) : BitVec 17 :=
  if d.cntL = 0#16 then (if c.val = 3 then 0x10000#17 else 0x4000#17) else d.cntL.zeroExtend 17

/-- A write of DMAcCNT_H at time `now`: arming, disarming, or a change of the stored bits (R622). -/
def Sys.writeDmaCntH (c : Fin 4) (new : Half) (y : Sys) : Except Fault Sys :=
  let d := y.dmaChannel c
  let was := d.cntH.getLsbD 15
  let wants := new.getLsbD 15
  if !was && wants then
    let y := y.setDma c { d with cntH := new, isrc := d.sad, idst := d.dad, icount := d.count c, armed := true }
    match DmaTiming.of new with
    | .immediate => .ok (y.schedule y.now (.dma c))
    | .special => if c.val = 3 then .error (.unmodelled .dma3VideoCapture) else .ok y
    | .vblank => .ok y
    | .hblank => .ok y
  else if was && !wants then
    .ok ((y.setDma c { d with cntH := new, armed := false }).cancel (.dma c))
  else .ok (y.setDma c { d with cntH := new })

/-! ## Sound FIFOs (61_timers_dma.md R650, R651) -/

/-- The FIFO of a name. -/
def Sys.fifo (y : Sys) : FifoName → Fifo
  | .a => y.fifoA
  | .b => y.fifoB

/-- The system with a FIFO replaced. -/
def Sys.setFifo (x : FifoName) (q : Fifo) (y : Sys) : Sys :=
  match x with
  | .a => { y with fifoA := q }
  | .b => { y with fifoB := q }

/-- A push; into a full queue it is dropped (R651). -/
def Fifo.push (v : Byte) (q : Fifo) : Fifo :=
  if q.queue.length < 32 then { q with queue := q.queue ++ [v] } else q

/-- A 16-bit write to a FIFO register: the bytes the lanes enable, low byte first (R651). -/
def Fifo.write (value lanes : Half) (q : Fifo) : Fifo :=
  let q := if lanes.getLsbD 0 then q.push (value.extractLsb' 0 8) else q
  if lanes.getLsbD 8 then q.push (value.extractLsb' 8 8) else q

/-- A write of SOUNDCNT_H: bits 11 and 15 written as 1 empty the FIFOs (R651). -/
def Sys.writeSoundcntH (value lanes : Half) (y : Sys) : Sys :=
  let y := { y with soundcntH := mergeLanes 0xFF0F#16 y.soundcntH value lanes }
  let y := if (value &&& lanes).getLsbD 11 then { y with fifoA := { y.fifoA with queue := [] } } else y
  if (value &&& lanes).getLsbD 15 then { y with fifoB := { y.fifoB with queue := [] } } else y

/-! ## Keypad (61_timers_dma.md R662) -/

/-- Whether the keypad condition holds (R662). -/
def Sys.keyCondition (y : Sys) : Bool :=
  let pressed := ~~~y.keyinput &&& 0x03FF#16
  let sel := y.keycnt &&& 0x03FF#16
  if y.keycnt.getLsbD 15 then sel != 0#16 && (pressed &&& sel) == sel else (pressed &&& sel) != 0#16

/-- The keypad interrupt, evaluated after a write to KEYCNT and after `set_key_state` (R662). -/
def Sys.evalKeypad (y : Sys) : Sys :=
  if y.keyCondition && y.keycnt.getLsbD 14 then y.requestIrq 12 else y

/-! ## POSTFLG and HALTCNT (20_memory.md R130, 60_exceptions.md R575) -/

/-- A write of the halfword at 0x300. -/
def Sys.writePostHalt (value lanes : Half) (y : Sys) : Except Fault Sys :=
  let y := if lanes.getLsbD 0 then { y with postflg := value.getLsbD 0 } else y
  if lanes &&& 0xFF00#16 != 0#16 then
    if value.getLsbD 15 then .error (.unmodelled .stop) else .ok { y with halted := true }
  else .ok y

/-! ## `Reg16Read` and `Reg16Write` (20_memory.md R125, R127) -/

/-- The value a 16-bit read of a register returns. -/
def Sys.ioRead16 (y : Sys) : IoReg → Half
  | .dispcnt => y.ppu.dispcnt &&& 0xFFF7#16
  | .greenswp => y.ppu.greenswp
  | .dispstat => y.ppu.dispstat &&& 0xFF3F#16
  | .vcount => BitVec.ofNat 16 y.ppu.vcount.val
  | .bgcnt x => y.ppu.bgcnt[x.val]
  | .bghofs _ => 0#16
  | .bgvofs _ => 0#16
  | .affine _ _ => 0#16
  | .win0h => 0#16
  | .win1h => 0#16
  | .win0v => 0#16
  | .win1v => 0#16
  | .winin => y.ppu.winin &&& 0x3F3F#16
  | .winout => y.ppu.winout &&& 0x3F3F#16
  | .mosaic => 0#16
  | .bldcnt => y.ppu.bldcnt &&& 0x3FFF#16
  | .bldalpha => y.ppu.bldalpha &&& 0x1F1F#16
  | .bldy => 0#16
  | .soundcntH => y.soundcntH &&& 0x770F#16
  | .fifo _ => 0#16
  | .dmaSad _ _ => 0#16
  | .dmaDad _ _ => 0#16
  | .dmaCntL _ => 0#16
  | .dmaCntH c => (y.dmaChannel c).cntH &&& dmaCntHMask c
  | .tmCntL i => (y.timer i).value i y.now
  | .tmCntH i => (y.timer i).control &&& 0x00C7#16
  | .keyinput => y.keyinput &&& 0x03FF#16
  | .keycnt => y.keycnt &&& 0xC3FF#16
  | .ie => y.ie &&& 0x3FFF#16
  | .iflag => y.iflag &&& 0x3FFF#16
  | .waitcnt => y.waitcnt &&& 0x5FFF#16
  | .ime => if y.ime then 1#16 else 0#16
  | .postflgHaltcnt => if y.postflg then 1#16 else 0#16
  | .storage o => Sparse.get 0#16 y.storage o
  | .unused => 0#16

/-- A 16-bit write of a register with its lanes and its side effects. -/
def Sys.ioWrite16 (r : IoReg) (value lanes : Half) (y : Sys) : Except Fault Sys :=
  match r with
  | .dispcnt => .ok { y with ppu := { y.ppu with dispcnt := mergeLanes 0xFFF7#16 y.ppu.dispcnt value lanes } }
  | .greenswp => .ok { y with ppu := { y.ppu with greenswp := mergeLanes 0xFFFF#16 y.ppu.greenswp value lanes } }
  | .dispstat => .ok { y with ppu := { y.ppu with dispstat := mergeLanes 0xFF38#16 y.ppu.dispstat value lanes } }
  | .vcount => .ok y
  | .bgcnt x =>
      .ok { y with ppu := { y.ppu with
        bgcnt := y.ppu.bgcnt.set x.val (mergeLanes 0xFFFF#16 y.ppu.bgcnt[x.val] value lanes) } }
  | .bghofs x =>
      .ok { y with ppu := { y.ppu with
        bghofs := y.ppu.bghofs.set x.val (mergeLanes 0x01FF#16 y.ppu.bghofs[x.val] value lanes) } }
  | .bgvofs x =>
      .ok { y with ppu := { y.ppu with
        bgvofs := y.ppu.bgvofs.set x.val (mergeLanes 0x01FF#16 y.ppu.bgvofs[x.val] value lanes) } }
  | .affine b r => .ok { y with ppu := y.ppu.setAffine b ((y.ppu.affine b).write r value lanes) }
  | .win0h => .ok { y with ppu := { y.ppu with win0h := mergeLanes 0xFFFF#16 y.ppu.win0h value lanes } }
  | .win1h => .ok { y with ppu := { y.ppu with win1h := mergeLanes 0xFFFF#16 y.ppu.win1h value lanes } }
  | .win0v => .ok { y with ppu := { y.ppu with win0v := mergeLanes 0xFFFF#16 y.ppu.win0v value lanes } }
  | .win1v => .ok { y with ppu := { y.ppu with win1v := mergeLanes 0xFFFF#16 y.ppu.win1v value lanes } }
  | .winin => .ok { y with ppu := { y.ppu with winin := mergeLanes 0x3F3F#16 y.ppu.winin value lanes } }
  | .winout => .ok { y with ppu := { y.ppu with winout := mergeLanes 0x3F3F#16 y.ppu.winout value lanes } }
  | .mosaic => .ok { y with ppu := { y.ppu with mosaic := mergeLanes 0xFFFF#16 y.ppu.mosaic value lanes } }
  | .bldcnt => .ok { y with ppu := { y.ppu with bldcnt := mergeLanes 0x3FFF#16 y.ppu.bldcnt value lanes } }
  | .bldalpha => .ok { y with ppu := { y.ppu with bldalpha := mergeLanes 0x1F1F#16 y.ppu.bldalpha value lanes } }
  | .bldy => .ok { y with ppu := { y.ppu with bldy := mergeLanes 0x001F#16 y.ppu.bldy value lanes } }
  | .soundcntH => .ok (y.writeSoundcntH value lanes)
  | .fifo x => .ok (y.setFifo x ((y.fifo x).write value lanes))
  | .dmaSad c high =>
      let d := y.dmaChannel c
      let wm := if high then dmaSadHighMask c else 0xFFFF#16
      .ok (y.setDma c { d with sad := setWordHalf high d.sad (mergeLanes wm (wordHalf high d.sad) value lanes) })
  | .dmaDad c high =>
      let d := y.dmaChannel c
      let wm := if high then dmaDadHighMask c else 0xFFFF#16
      .ok (y.setDma c { d with dad := setWordHalf high d.dad (mergeLanes wm (wordHalf high d.dad) value lanes) })
  | .dmaCntL c =>
      let d := y.dmaChannel c
      .ok (y.setDma c { d with cntL := mergeLanes (dmaCntLMask c) d.cntL value lanes })
  | .dmaCntH c => y.writeDmaCntH c (mergeLanes (dmaCntHMask c) (y.dmaChannel c).cntH value lanes)
  | .tmCntL i =>
      let tm := y.timer i
      .ok (y.setTimer i { tm with reload := mergeLanes 0xFFFF#16 tm.reload value lanes })
  | .tmCntH i => .ok (y.writeTimerControl i (mergeLanes 0x00C7#16 (y.timer i).control value lanes))
  | .keyinput => .ok y
  | .keycnt => .ok ({ y with keycnt := mergeLanes 0xC3FF#16 y.keycnt value lanes } : Sys).evalKeypad
  | .ie => .ok { y with ie := mergeLanes 0x3FFF#16 y.ie value lanes }
  | .iflag => .ok { y with iflag := y.iflag &&& ~~~(value &&& lanes) }
  | .waitcnt => .ok { y with waitcnt := mergeLanes 0x5FFF#16 y.waitcnt value lanes }
  | .ime => .ok { y with ime := if lanes.getLsbD 0 then value.getLsbD 0 else y.ime }
  | .postflgHaltcnt => y.writePostHalt value lanes
  | .storage o =>
      .ok { y with storage := Sparse.set 0#16 y.storage o (mergeLanes 0xFFFF#16 (Sparse.get 0#16 y.storage o) value lanes) }
  | .unused => .ok y

/-! ## Accesses of every width (20_memory.md R126) -/

/-- `IoRead(o, n)` below 0x400. -/
def Sys.ioRead (y : Sys) (w : Width) (o : Nat) : Word :=
  match w with
  | .half => (y.ioRead16 (IoReg.ofOffset o)).zeroExtend 32
  | .word => y.ioRead16 (IoReg.ofOffset (o + 2)) ++ y.ioRead16 (IoReg.ofOffset o)
  | .byte => ((y.ioRead16 (IoReg.ofOffset (o - o % 2)) >>> (8 * (o % 2))) &&& 0x00FF#16).zeroExtend 32

/-- `IoWrite(o, n, v)` below 0x400: of a word, the low half with all its side effects before the high half. -/
def Sys.ioWrite (y : Sys) (w : Width) (o : Nat) (v : Word) : Except Fault Sys :=
  match w with
  | .half => y.ioWrite16 (IoReg.ofOffset o) (v.extractLsb' 0 16) 0xFFFF#16
  | .word =>
      match y.ioWrite16 (IoReg.ofOffset o) (v.extractLsb' 0 16) 0xFFFF#16 with
      | .ok y' => y'.ioWrite16 (IoReg.ofOffset (o + 2)) (v.extractLsb' 16 16) 0xFFFF#16
      | .error f => .error f
  | .byte =>
      y.ioWrite16 (IoReg.ofOffset (o - o % 2)) ((v.extractLsb' 0 8).zeroExtend 16 <<< (8 * (o % 2)))
        (0x00FF#16 <<< (8 * (o % 2)))

end Sys2Proof.Machine
end

