-- ==== Sys2Proof/Machine/Bus.lean ====
section
/-! DEFINITION. The system bus (spec/20_memory.md): regions R105, data reads R106 and writes R107 of every
width, the fetch and its latches R120, and the cost of an access R122..R124. -/

namespace Sys2Proof.Machine

open Sys2Proof

/-! ## Regions (R105) -/

/-- The regions of the address space. -/
inductive Region where
  | bios | ewram | iwram | io | palette | vram | oam | rom (waitState : Fin 3) | backup | unmapped
  deriving DecidableEq, Repr

/-- The region index `a[31:24]`, and its region (R105). -/
def Region.of (a : Word) : Region :=
  match a.toNat / 0x1000000 with
  | 0x00 => .bios
  | 0x01 => .bios
  | 0x02 => .ewram
  | 0x03 => .iwram
  | 0x04 => .io
  | 0x05 => .palette
  | 0x06 => .vram
  | 0x07 => .oam
  | 0x08 => .rom 0
  | 0x09 => .rom 0
  | 0x0A => .rom 1
  | 0x0B => .rom 1
  | 0x0C => .rom 2
  | 0x0D => .rom 2
  | 0x0E => .backup
  | 0x0F => .backup
  | _ => .unmapped

/-- The offset of an address in regions 0x00 and 0x01, and in the GamePak ROM regions: `a AND 0x01FF_FFFF`. -/
def offset25 (a : Word) : Nat := a.toNat % 0x2000000

/-- The offset of an address in the I/O region: `a AND 0x00FF_FFFF`. -/
def offset24 (a : Word) : Nat := a.toNat % 0x1000000

/-- `VramOffset(a)` (R110). -/
def vramOffset (a : Word) : Nat :=
  let o := a.toNat % 0x20000
  if o ≥ 0x18000 then o - 0x8000 else o

/-- `ObjBase` (R111). -/
def objBase (dispcnt : Half) : Nat := if (dispcnt.extractLsb' 0 3).toNat ≤ 2 then 0x10000 else 0x14000

/-! ## Reads -/

/-- `OpenBus(a, n)` (R116). -/
def Sys.openBus (y : Sys) (w : Width) (a : Word) : Word := w.lane y.lastFetch a

/-- `BiosRead(a, n)` (R108). -/
def Sys.biosRead (y : Sys) (w : Width) (a : Word) : Word :=
  let o := offset25 a
  if o ≥ Config.biosSize then y.openBus w a
  else if y.lastFetchAddr.toNat < Config.biosSize then Memory.readLE y.mem w (biosKey o)
  else w.lane y.biosLatch a

/-- `RomHalf(h)` (R114). -/
def Sys.romHalf (y : Sys) (h : Nat) : Half :=
  if h + 1 < y.params.romSize then Memory.read16 y.mem (romKey h) else BitVec.ofNat 16 (h / 2)

/-- `RomRead(a, n)` outside the EEPROM window (R114). -/
def Sys.romRead (y : Sys) (w : Width) (a : Word) : Word :=
  let o := offset25 a
  match w with
  | .half => (y.romHalf o).zeroExtend 32
  | .word => y.romHalf (o + 2) ++ y.romHalf o
  | .byte => ((y.romHalf (o - o % 2) >>> (8 * (o % 2))) &&& 0x00FF#16).zeroExtend 32

/-- A read in the EEPROM window: one bit, zero-extended; in both halves of a word (R119). -/
def Sys.eepromRead (y : Sys) (w : Width) : Word × Sys :=
  let r := y.deviceReadBit
  let bit : Half := if r.1 then 1#16 else 0#16
  match w with
  | .byte => (bit.zeroExtend 32, r.2)
  | .half => (bit.zeroExtend 32, r.2)
  | .word => (bit ++ bit, r.2)

/-- The value a read at an aligned address returns, outside the EEPROM window: such a read changes nothing
(R106, R162). -/
def Sys.peekAligned (y : Sys) (w : Width) (a : Word) : Word :=
  match Region.of a with
  | .bios => y.biosRead w a
  | .ewram => Memory.readLE y.mem w (ewramKey (a.toNat % 0x40000))
  | .iwram => Memory.readLE y.mem w (iwramKey (a.toNat % 0x8000))
  | .io => if offset24 a < 0x400 then y.ioRead w (offset24 a) else y.openBus w a
  | .palette => Memory.readLE y.mem w (pramKey (a.toNat % 0x400))
  | .vram => Memory.readLE y.mem w (vramKey (vramOffset a))
  | .oam => Memory.readLE y.mem w (oamKey (a.toNat % 0x400))
  | .rom _ => y.romRead w a
  | .backup => y.backupRead w a
  | .unmapped => y.openBus w a

/-- `MemRead(addr, n)`: the value, zero-extended, and the system after it, which differs only when the read takes a
bit of the EEPROM (R103, R106, R162). -/
def Sys.memRead (y : Sys) (w : Width) (addr : Word) : Word × Sys :=
  let a := w.align addr
  if y.inEepromWindow a then y.eepromRead w else (y.peekAligned w a, y)

/-! ## Writes -/

/-- The system with memory replaced. -/
def Sys.withMem (m : List Host.Cell) (y : Sys) : Sys := { y with mem := m }

/-- `PramWrite(o, n, v)`: a byte goes to both halves of its halfword (R112). -/
def pramWrite (m : List Host.Cell) (w : Width) (o : Nat) (v : Word) : List Host.Cell :=
  match w with
  | .byte => Memory.write (Memory.write m (pramKey (o - o % 2)) (v.extractLsb' 0 8)) (pramKey (o - o % 2 + 1)) (v.extractLsb' 0 8)
  | .half => Memory.writeLE m .half (pramKey o) v
  | .word => Memory.writeLE m .word (pramKey o) v

/-- `VramWrite(o, n, v)`: a byte below `ObjBase` goes to both halves of its halfword, above it is dropped (R111). -/
def vramWrite (m : List Host.Cell) (dispcnt : Half) (w : Width) (o : Nat) (v : Word) : List Host.Cell :=
  match w with
  | .byte =>
      if o < objBase dispcnt then
        Memory.write (Memory.write m (vramKey (o - o % 2)) (v.extractLsb' 0 8)) (vramKey (o - o % 2 + 1)) (v.extractLsb' 0 8)
      else m
  | .half => Memory.writeLE m .half (vramKey o) v
  | .word => Memory.writeLE m .word (vramKey o) v

/-- A write to OAM; a byte is dropped (R113). -/
def oamWrite (m : List Host.Cell) (w : Width) (o : Nat) (v : Word) : List Host.Cell :=
  match w with
  | .byte => m
  | .half => Memory.writeLE m .half (oamKey o) v
  | .word => Memory.writeLE m .word (oamKey o) v

/-- `RomWrite(a, n, v)`: dropped, but in the EEPROM window one bit (R115, R119). -/
def Sys.romWrite (y : Sys) (a v : Word) : Sys := if y.inEepromWindow a then y.deviceWriteBit (v.getLsbD 0) else y

/-- `MemWrite(addr, n, v)` (R103, R107).  Only an I/O write can fault. -/
def Sys.memWrite (y : Sys) (w : Width) (addr v : Word) : Except Fault Sys :=
  let a := w.align addr
  match Region.of a with
  | .bios => .ok y
  | .ewram => .ok (y.withMem (Memory.writeLE y.mem w (ewramKey (a.toNat % 0x40000)) v))
  | .iwram => .ok (y.withMem (Memory.writeLE y.mem w (iwramKey (a.toNat % 0x8000)) v))
  | .io => if offset24 a < 0x400 then y.ioWrite w (offset24 a) v else .ok y
  | .palette => .ok (y.withMem (pramWrite y.mem w (a.toNat % 0x400) v))
  | .vram => .ok (y.withMem (vramWrite y.mem y.ppu.dispcnt w (vramOffset a) v))
  | .oam => .ok (y.withMem (oamWrite y.mem w (a.toNat % 0x400) v))
  | .rom _ => .ok (y.romWrite a v)
  | .backup => .ok (y.backupWrite a (v.extractLsb' 0 8))
  | .unmapped => .ok y

/-! ## Fetches (R120) -/

/-- The width of an instruction in ARM or THUMB state (10_state.md R52). -/
def fetchWidth (thumb : Bool) : Width := if thumb then .half else .word

/-- `MemFetch(addr, n)`: the gate address first, then the read, then the latches (R120). -/
def Sys.memFetch (y : Sys) (thumb : Bool) (addr : Word) : Word × Sys :=
  let y := { y with lastFetchAddr := addr }
  let r := y.memRead (fetchWidth thumb) addr
  let y := r.2
  let y := if offset25 addr < Config.biosSize ∧ Region.of addr = .bios then
      { y with biosLatch := Memory.read32 y.mem (biosKey (addr.toNat % 0x4000 / 4 * 4)) }
    else y
  (r.1, { y with lastFetch := if thumb then r.1.extractLsb' 0 16 ++ r.1.extractLsb' 0 16 else r.1 })

/-! ## Costs (R122, R123) -/

/-- Sequential or non-sequential (R122, R124). -/
inductive Access where
  | nonseq | seq
  deriving DecidableEq, Repr

/-- The wait states a two-bit field names: 0→4, 1→3, 2→2, 3→8 (R123). -/
def waitField (b : BitVec 2) : Nat :=
  match b.toNat with
  | 0 => 4
  | 1 => 3
  | 2 => 2
  | _ => 8

/-- `SRAMw` (R123). -/
def sramWait (waitcnt : Half) : Nat := waitField (waitcnt.extractLsb' 0 2)

/-- `Nk` (R123). -/
def romNonseqWait (waitcnt : Half) (k : Fin 3) : Nat :=
  match k with
  | 0 => waitField (waitcnt.extractLsb' 2 2)
  | 1 => waitField (waitcnt.extractLsb' 5 2)
  | 2 => waitField (waitcnt.extractLsb' 8 2)

/-- `Sk` (R123). -/
def romSeqWait (waitcnt : Half) (k : Fin 3) : Nat :=
  match k with
  | 0 => if waitcnt.getLsbD 4 then 1 else 2
  | 1 => if waitcnt.getLsbD 7 then 1 else 4
  | 2 => if waitcnt.getLsbD 10 then 1 else 8

/-- The cycles of one access (R122). -/
def accessCost (waitcnt : Half) (kind : Access) (w : Width) (a : Word) : Nat :=
  let wide := decide (w = .word)
  match Region.of a with
  | .bios => 1
  | .ewram => if wide then 6 else 3
  | .iwram => 1
  | .io => 1
  | .palette => if wide then 2 else 1
  | .vram => if wide then 2 else 1
  | .oam => 1
  | .rom k =>
      let first := match kind with
        | .nonseq => 1 + romNonseqWait waitcnt k
        | .seq => 1 + romSeqWait waitcnt k
      if wide then first + (1 + romSeqWait waitcnt k) else first
  | .backup => 1 + sramWait waitcnt
  | .unmapped => 1

/-- Charge cycles to the current step. -/
def Sys.charge (n : Nat) (y : Sys) : Sys := { y with cost := y.cost + n }

/-- A charged data read. -/
def Sys.load (y : Sys) (kind : Access) (w : Width) (a : Word) : Word × Sys :=
  (y.charge (accessCost y.waitcnt kind w a)).memRead w a

/-- A charged data write. -/
def Sys.store (y : Sys) (kind : Access) (w : Width) (a v : Word) : Except Fault Sys :=
  (y.charge (accessCost y.waitcnt kind w a)).memWrite w a v

/-- A charged instruction fetch. -/
def Sys.fetch (y : Sys) (kind : Access) (thumb : Bool) (a : Word) : Word × Sys :=
  (y.charge (accessCost y.waitcnt kind (fetchWidth thumb) a)).memFetch thumb a

end Sys2Proof.Machine
end

