-- ==== Sys2Proof/Machine/Flags.lean ====
section
/-! DEFINITION. Arithmetic with flags (spec/00_scope.md R15), the sixteen data-processing operations
(40_arm_dataproc.md R280..R295), the conditions (30_encoding.md R205), and a PSR as a word (10_state.md R60). -/

namespace Sys2Proof.Machine

open Sys2Proof

/-! ## Carry and overflow (00_scope.md R15) -/

/-- `CarryFrom(a + b + c)`: the unsigned sum exceeds 0xFFFF_FFFF. -/
def carryFrom (a b : Word) (c : Bool) : Bool := decide (a.toNat + b.toNat + c.toNat > 0xFFFFFFFF)

/-- `NotBorrowFrom(a - b - borrow)`. -/
def notBorrowFrom (a b : Word) (borrow : Bool) : Bool := decide (a.toNat ≥ b.toNat + borrow.toNat)

/-- `OverflowAdd(a, b, r)`. -/
def overflowAdd (a b r : Word) : Bool := ((a ^^^ r) &&& (b ^^^ r)).getLsbD 31

/-- `OverflowSub(a, b, r)`. -/
def overflowSub (a b r : Word) : Bool := ((a ^^^ b) &&& (a ^^^ r)).getLsbD 31

/-- A carry bit as a word. -/
def bitWord (b : Bool) : Word := if b then 1#32 else 0#32

/-- A result with the carry and overflow the operation yields. -/
structure AluResult where
  result   : Word
  carry    : Bool
  overflow : Bool
  deriving DecidableEq, Repr

/-- `a + b + c` (R284, R285). -/
def addWithCarry (a b : Word) (c : Bool) : AluResult :=
  let r := a + b + bitWord c
  { result := r, carry := carryFrom a b c, overflow := overflowAdd a b r }

/-- `a - b - (1 - c)` (R282, R286). -/
def subWithCarry (a b : Word) (c : Bool) : AluResult :=
  let r := a - b - bitWord (!c)
  { result := r, carry := notBorrowFrom a b (!c), overflow := overflowSub a b r }

/-- A logical result: C is the shifter carry-out, V is unchanged (40_arm_dataproc.md R274). -/
def logical (r : Word) (sc v : Bool) : AluResult := { result := r, carry := sc, overflow := v }

/-! ## The sixteen operations (40_arm_dataproc.md R280..R295) -/

/-- `Op(a, op2, C)`, with the shifter carry-out `sc` and the old V for the logical operations (R274). -/
def dpCompute (op : DpOp) (a b : Word) (c v sc : Bool) : AluResult :=
  match op with
  | .and => logical (a &&& b) sc v
  | .eor => logical (a ^^^ b) sc v
  | .sub => subWithCarry a b true
  | .rsb => subWithCarry b a true
  | .add => addWithCarry a b false
  | .adc => addWithCarry a b c
  | .sbc => subWithCarry a b c
  | .rsc => subWithCarry b a c
  | .tst => logical (a &&& b) sc v
  | .teq => logical (a ^^^ b) sc v
  | .cmp => subWithCarry a b true
  | .cmn => addWithCarry a b false
  | .orr => logical (a ||| b) sc v
  | .mov => logical b sc v
  | .bic => logical (a &&& ~~~b) sc v
  | .mvn => logical (~~~b) sc v

/-- Whether the operation writes `Rd` (40_arm_dataproc.md R276). -/
def dpWritesRd (op : DpOp) : Bool :=
  match op with
  | .tst => false
  | .teq => false
  | .cmp => false
  | .cmn => false
  | .and => true
  | .eor => true
  | .sub => true
  | .rsb => true
  | .add => true
  | .adc => true
  | .sbc => true
  | .rsc => true
  | .orr => true
  | .mov => true
  | .bic => true
  | .mvn => true

/-! ## Status registers (10_state.md R60) -/

/-- The 32-bit value of a PSR: bits 27:8 read 0 (R60, R62). -/
def Psr.toWord (p : Psr) : Word :=
  BitVec.ofBool p.n ++ BitVec.ofBool p.z ++ BitVec.ofBool p.c ++ BitVec.ofBool p.v ++ 0#20 ++
    BitVec.ofBool p.i ++ BitVec.ofBool p.f ++ BitVec.ofBool p.t ++ p.m

/-- The PSR with bits 31:28 taken from a word. -/
def Psr.withFlags (p : Psr) (w : Word) : Psr :=
  { p with n := w.getLsbD 31, z := w.getLsbD 30, c := w.getLsbD 29, v := w.getLsbD 28 }

/-- The PSR with bits 7:0 taken from a word. -/
def Psr.withControl (p : Psr) (w : Word) : Psr :=
  { p with i := w.getLsbD 7, f := w.getLsbD 6, t := w.getLsbD 5, m := w.extractLsb' 0 5 }

/-- N and Z from a result, C and V given (40_arm_dataproc.md R274). -/
def Psr.setNzcv (p : Psr) (r : AluResult) : Psr :=
  { p with n := r.result.getLsbD 31, z := r.result == 0#32, c := r.carry, v := r.overflow }

/-- N and Z from a result; C and V unchanged (41_arm_multiply.md R311). -/
def Psr.setNz (p : Psr) (r : Word) : Psr := { p with n := r.getLsbD 31, z := r == 0#32 }

/-- The condition holds of the flags; NV never does (30_encoding.md R205, R206). -/
def condHolds (c : Cond) (p : Psr) : Bool :=
  match c with
  | .eq => p.z
  | .ne => !p.z
  | .cs => p.c
  | .cc => !p.c
  | .mi => p.n
  | .pl => !p.n
  | .vs => p.v
  | .vc => !p.v
  | .hi => p.c && !p.z
  | .ls => !p.c || p.z
  | .ge => p.n == p.v
  | .lt => p.n != p.v
  | .gt => !p.z && (p.n == p.v)
  | .le => p.z || (p.n != p.v)
  | .al => true
  | .nv => false

end Sys2Proof.Machine
end

