-- ==== Sys2Proof/Machine/Operands.lean ====
section
/-! DEFINITION. The operand forms: the shifter operand (spec/40_arm_dataproc.md R271..R273), the offsets and
addresses of the transfers (43_arm_loadstore.md R350..R352, R367, R368), the signed displacements of the
branches (42_arm_psr_branch.md, 47_thumb_branch.md), and the multiplier's cycle count (41_arm_multiply.md R313). -/

namespace Sys2Proof.Machine

open Sys2Proof

/-! ## Shifter operand -/

/-- All ones where the bit is set, all zeros otherwise. -/
def signFill (b : Bool) : Word := if b then 0xFFFFFFFF#32 else 0#32

/-- `(op2, sc)` of the immediate-shift form (R271): `n = 0` encodes LSL #0, LSR #32, ASR #32 and RRX. -/
def shiftImmediate (kind : ShiftKind) (amount : BitVec 5) (m : Word) (c : Bool) : Word × Bool :=
  let n := amount.toNat
  match kind with
  | .lsl => if n = 0 then (m, c) else (m <<< n, m.getLsbD (32 - n))
  | .lsr => if n = 0 then (0#32, m.getLsbD 31) else (m >>> n, m.getLsbD (n - 1))
  | .asr => if n = 0 then (signFill (m.getLsbD 31), m.getLsbD 31) else (m.sshiftRight n, m.getLsbD (n - 1))
  | .ror => if n = 0 then (BitVec.ofBool c ++ m.extractLsb' 1 31, m.getLsbD 0) else (m.rotateRight n, m.getLsbD (n - 1))

/-- `(op2, sc)` of the register-shift form by the low byte of `Rs` (R272). -/
def shiftRegister (kind : ShiftKind) (amount : Byte) (m : Word) (c : Bool) : Word × Bool :=
  let n := amount.toNat
  if n = 0 then (m, c)
  else
    match kind with
    | .lsl =>
        if n < 32 then (m <<< n, m.getLsbD (32 - n)) else if n = 32 then (0#32, m.getLsbD 0) else (0#32, false)
    | .lsr =>
        if n < 32 then (m >>> n, m.getLsbD (n - 1)) else if n = 32 then (0#32, m.getLsbD 31) else (0#32, false)
    | .asr =>
        if n < 32 then (m.sshiftRight n, m.getLsbD (n - 1)) else (signFill (m.getLsbD 31), m.getLsbD 31)
    | .ror =>
        if n % 32 = 0 then (m, m.getLsbD 31) else (m.rotateRight (n % 32), m.getLsbD (n % 32 - 1))

/-- `ROR(zext_8(imm8), 2·rotate)` (R273, R334). -/
def rotatedImmediate (rotate : BitVec 4) (imm8 : BitVec 8) : Word := (imm8.zeroExtend 32).rotateRight (2 * rotate.toNat)

/-- `(op2, sc)` of the immediate form (R273). -/
def immediateOperand (rotate : BitVec 4) (imm8 : BitVec 8) (c : Bool) : Word × Bool :=
  let op2 := rotatedImmediate rotate imm8
  (op2, if rotate = 0#4 then c else op2.getLsbD 31)

/-! ## Addresses of the transfers -/

/-- `base + offset` or `base - offset` (R352). -/
def moveBase (up : Bool) (base offset : Word) : Word := if up then base + offset else base - offset

/-- The 8-bit offset of a halfword transfer (R351). -/
def halfOffset (immH immL : BitVec 4) : Word := (immH ++ immL).zeroExtend 32

/-- The registers of a list of 16 bits, in ascending order (R367). -/
def regList (list : BitVec 16) : List RegNum :=
  ((List.range 16).filter (fun k => list.getLsbD k)).map (fun k => BitVec.ofNat 4 k)

/-- What a block transfer moves and where: the registers, the first address, and the base after it (R367, R368). -/
structure BlockPlan where
  regs  : List RegNum
  start : Word
  moved : Word
  deriving DecidableEq, Repr

/-- The registers of a block transfer: an empty list stands for R15 alone (R368). -/
def blockRegs (list : BitVec 16) : List RegNum := if list = 0#16 then [15#4] else regList list

/-- The bytes the base moves: 4 a register, 0x40 for an empty list (R367, R368). -/
def blockSize (list : BitVec 16) : Word :=
  if list = 0#16 then 0x40#32 else BitVec.ofNat 32 (4 * (regList list).length)

/-- The four addressing modes (R367). -/
def blockPlan (p u : Bool) (base : Word) (list : BitVec 16) : BlockPlan :=
  let size := blockSize list
  let start := match p, u with
    | false, true => base
    | true, true => base + 4#32
    | false, false => base - size + 4#32
    | true, false => base - size
  { regs := blockRegs list, start := start, moved := if u then base + size else base - size }

/-! ## Branch displacements -/

/-- `sext_26(offset24 << 2)` (R335). -/
def branchOffset24 (offset : BitVec 24) : Word := (offset ++ 0#2).signExtend 32

/-- `sext_9(soffset8 << 1)` (R530). -/
def branchOffset8 (offset : BitVec 8) : Word := (offset ++ 0#1).signExtend 32

/-- `sext_12(offset11 << 1)` (R532). -/
def branchOffset11 (offset : BitVec 11) : Word := (offset ++ 0#1).signExtend 32

/-- `sext_23(offset_hi << 12)` (R533). -/
def blOffsetHigh (offset : BitVec 11) : Word := (offset ++ 0#12).signExtend 32

/-- `offset_lo << 1` (R534). -/
def blOffsetLow (offset : BitVec 11) : Word := (offset ++ 0#1).zeroExtend 32

/-! ## THUMB operands -/

/-- A low register as a register number. -/
def lowReg (r : LowReg) : RegNum := 0#1 ++ r

/-- A register of format 5: the H bit and the three-bit field (R460). -/
def hiReg (h : Bool) (r : LowReg) : RegNum := BitVec.ofBool h ++ r

/-- A field as a word, scaled by a power of two. -/
def scaled (v : BitVec n) (shift : Nat) : Word := v.zeroExtend 32 <<< shift

/-! ## Multiplier cycles (R313) -/

/-- `m`: how many bytes of `Rs` the multiplier works through; a signed form also stops at all ones. -/
def multiplierCycles (signed : Bool) (rs : Word) : Nat :=
  let ends (k len : Nat) : Bool :=
    rs.extractLsb' k len == 0#len || (signed && rs.extractLsb' k len == BitVec.allOnes len)
  if ends 8 24 then 1 else if ends 16 16 then 2 else if ends 24 8 then 3 else 4

end Sys2Proof.Machine
end

