-- ==== Sys2Proof/Machine/Ops.lean ====
section
/-! DEFINITION. The shared operations of the meanings: the register views (spec/10_state.md R41..R43), the
PSRs R63, the branch R56 and the sequential advance R54, the UNPREDICTABLE switch (00_scope.md R12),
taking an exception (60_exceptions.md R551) and restoring the CPSR (40_arm_dataproc.md R275), and the
charged loads and stores of registers (43_arm_loadstore.md). -/

namespace Sys2Proof.Machine

open Sys2Proof

/-- The answer of a meaning. -/
abbrev Result := Host.Outcome State Fault Refusal

/-! ## Modes and banks (10_state.md R42, R61) -/

/-- The bits of a mode (R61). -/
def Mode.bits : Mode → BitVec 5
  | .user => 0b10000#5
  | .fiq => 0b10001#5
  | .irq => 0b10010#5
  | .supervisor => 0b10011#5
  | .abort => 0b10111#5
  | .undefined => 0b11011#5
  | .system => 0b11111#5

/-- The mode of a mode field; the other 25 values are invalid (R61). -/
def Mode.ofBits (m : BitVec 5) : Option Mode :=
  match m.toNat with
  | 0x10 => some .user
  | 0x11 => some .fiq
  | 0x12 => some .irq
  | 0x13 => some .supervisor
  | 0x17 => some .abort
  | 0x1B => some .undefined
  | 0x1F => some .system
  | _ => none

/-- Whether a mode field is one of the seven (R61). -/
def modeValid (m : BitVec 5) : Bool := (Mode.ofBits m).isSome

/-- The register view of a mode (R42). -/
def Mode.bank : Mode → Bank
  | .user => .usr
  | .system => .usr
  | .fiq => .fiq
  | .irq => .irq
  | .supervisor => .svc
  | .abort => .abt
  | .undefined => .und

/-- The register view of a mode field. -/
def bankOf (m : BitVec 5) : Bank :=
  match Mode.ofBits m with
  | some md => md.bank
  | none => .usr

/-- The view of the current mode. -/
def Cpu.bank (c : Cpu) : Bank := bankOf c.cpsr.m

/-- Whether the current mode is User or System, the modes without an SPSR (R61). -/
def Cpu.noSpsr (c : Cpu) : Bool := c.bank == .usr

/-- Whether the current mode is User (60_exceptions.md R585). -/
def Cpu.userMode (c : Cpu) : Bool := c.cpsr.m == Mode.user.bits

/-! ## General registers (10_state.md R41, R42) -/

/-- The number of a view: where its R13 and R14 stand. -/
def Bank.index : Bank → Fin 6
  | .usr => 0
  | .fiq => 1
  | .irq => 2
  | .svc => 3
  | .abt => 4
  | .und => 5

/-- The place of logical register `r` (0..14) of a view in the register file: R0..R7 at 0..7, R8..R12 of User at
8..12, of FIQ at 13..17, the six R13 at 18..23, the six R14 at 24..29 (R42). -/
def physIndex (b : Bank) (r : RegNum) : Fin 30 :=
  if h8 : r.toNat < 8 then ⟨r.toNat, by omega⟩
  else if h13 : r.toNat < 13 then
    (match b with
      | .fiq => ⟨r.toNat + 5, by omega⟩
      | .usr => ⟨r.toNat, by omega⟩
      | .irq => ⟨r.toNat, by omega⟩
      | .svc => ⟨r.toNat, by omega⟩
      | .abt => ⟨r.toNat, by omega⟩
      | .und => ⟨r.toNat, by omega⟩)
  else if r.toNat = 13 then ⟨18 + b.index.val, by omega⟩
  else ⟨24 + b.index.val, by omega⟩

/-- `Ri` of a view, for `i` in 0..14. -/
def Cpu.bankReg (c : Cpu) (b : Bank) (r : RegNum) : Word := c.regs[physIndex b r]

/-- The CPU with `Ri` of a view written; R15 is no register of a view. -/
def Cpu.setBankReg (b : Bank) (r : RegNum) (v : Word) (c : Cpu) : Cpu :=
  if r = 15#4 then c else { c with regs := c.regs.set (physIndex b r) v }

/-- `w`: the instruction width in bytes (R52). -/
def widthOf (thumb : Bool) : Word := if thumb then 2#32 else 4#32

/-- `PCread = A + 2w` (R53). -/
def State.pcRead (s : State) : Word := s.cpu.pc + widthOf s.cpu.cpsr.t + widthOf s.cpu.cpsr.t

/-- `A + 12` in ARM state, `A + 6` in THUMB state: the stored R15 and the R15 of a register shift (R53; 46_thumb_mem.md
R504). -/
def State.pcStore (s : State) : Word := s.pcRead + widthOf s.cpu.cpsr.t

/-- `x[i]` in a view, R15 reading as the given value (00_scope.md R17). -/
def State.regIn (s : State) (b : Bank) (r15 : Word) (r : RegNum) : Word := if r = 15#4 then r15 else s.cpu.bankReg b r

/-- `x[i]` with R15 reading as `PCread` (00_scope.md R17). -/
def State.reg (s : State) (r : RegNum) : Word := s.regIn s.cpu.bank s.pcRead r

/-- `x[i]` with R15 reading as `A + 12` (40_arm_dataproc.md R272, 43_arm_loadstore.md R353). -/
def State.regStore (s : State) (r : RegNum) : Word := s.regIn s.cpu.bank s.pcStore r

/-- `x[i] <- v` in the current view, for `i` in 0..14 (00_scope.md R17). -/
def State.setReg (r : RegNum) (v : Word) (s : State) : State := { s with cpu := s.cpu.setBankReg s.cpu.bank r v }

/-- `x[i] <- v` in a view, for `i` in 0..14. -/
def State.setRegIn (b : Bank) (r : RegNum) (v : Word) (s : State) : State := { s with cpu := s.cpu.setBankReg b r v }

/-! ## Status registers -/

/-- The state with the CPSR replaced. -/
def State.setCpsr (p : Psr) (s : State) : State := { s with cpu := { s.cpu with cpsr := p } }

/-- The place of the SPSR of a view (10_state.md R63). -/
def Bank.spsrIndex : Bank → Option (Fin 5)
  | .usr => none
  | .fiq => some 0
  | .irq => some 1
  | .svc => some 2
  | .abt => some 3
  | .und => some 4

/-- The SPSR of the current mode, none in User and System (10_state.md R63). -/
def Cpu.currentSpsr (c : Cpu) : Option Psr :=
  match c.bank.spsrIndex with
  | some k => some c.spsr[k]
  | none => none

/-- The CPU with the SPSR of the current mode written; User and System have none. -/
def Cpu.setCurrentSpsr (p : Psr) (c : Cpu) : Cpu :=
  match c.bank.spsrIndex with
  | some k => { c with spsr := c.spsr.set k p }
  | none => c

/-! ## Outcomes -/

/-- Go on with the value of a computation that may fault. -/
def orFault (x : Except Fault α) (k : α → Result) : Result :=
  match x with
  | .ok a => k a
  | .error f => .fault f

/-- Whether UNPREDICTABLE cases fault (00_scope.md R12). -/
def State.strict (s : State) : Bool := s.sys.params.unpred == .fault

/-- `Unpredictable(c) else k`, when `bad` holds (00_scope.md R12). -/
def State.unpredictable (s : State) (c : UnpredCase) (bad : Bool) (k : Result) : Result :=
  if bad && s.strict then .fault (.unpredictable c) else k

/-- The state with the system replaced. -/
def State.withSys (y : Sys) (s : State) : State := { s with sys := y }

/-- Charge internal cycles. -/
def State.internal (n : Nat) (s : State) : State := s.withSys (s.sys.charge n)

/-! ## The program counter -/

/-- `pc <- A + w`, no refill (10_state.md R54). -/
def State.advance (s : State) : State := { s with cpu := { s.cpu with pc := s.cpu.pc + widthOf s.cpu.cpsr.t } }

/-- `target AND NOT (w - 1)` (10_state.md R56). -/
def alignPc (thumb : Bool) (target : Word) : Word :=
  if thumb then target &&& 0xFFFFFFFE#32 else target &&& 0xFFFFFFFC#32

/-- `pc <- target`: the aligned address and the two refill fetches, N and S (10_state.md R56). -/
def State.branch (target : Word) (s : State) : State :=
  let thumb := s.cpu.cpsr.t
  let pc := alignPc thumb target
  let f0 := s.sys.fetch .nonseq thumb pc
  let f1 := f0.2.fetch .seq thumb (pc + widthOf thumb)
  { cpu := { s.cpu with pc := pc, pipe0 := f0.1, pipe1 := f1.1 }, sys := f1.2 }

/-- Write a result register and go on: R15 is a branch, any other register is written before the advance
(40_arm_dataproc.md R274). -/
def State.finish (rd : RegNum) (v : Word) (s : State) : State :=
  if rd = 15#4 then s.branch v else (s.setReg rd v).advance

/-- Run an instruction when its condition passes; otherwise only the sequential advance happens (30_encoding.md
R206). -/
def State.whenPassed (s : State) (c : Cond) (k : State → Result) : Result :=
  if condHolds c s.cpu.cpsr then k s else .next s.advance

/-! ## Exceptions (60_exceptions.md R550, R551, R559, R560) -/

/-- The exceptions (R550). -/
inductive Exception where
  | reset | undefinedInstruction | swi | prefetchAbort | dataAbort | irq | fiq
  deriving DecidableEq, Repr

/-- `index_E` (R550). -/
def Exception.index : Exception → Nat
  | .reset => 0
  | .undefinedInstruction => 1
  | .swi => 2
  | .prefetchAbort => 3
  | .dataAbort => 4
  | .irq => 6
  | .fiq => 7

/-- The vector, `4·index_E` (R550, R586). -/
def Exception.vector (e : Exception) : Word := BitVec.ofNat 32 (4 * e.index)

/-- The mode entered (R550). -/
def Exception.mode : Exception → Mode
  | .reset => .supervisor
  | .undefinedInstruction => .undefined
  | .swi => .supervisor
  | .prefetchAbort => .abort
  | .dataAbort => .abort
  | .irq => .irq
  | .fiq => .fiq

/-- Whether the entry sets F (R550). -/
def Exception.setsF : Exception → Bool
  | .reset => true
  | .fiq => true
  | .undefinedInstruction => false
  | .swi => false
  | .prefetchAbort => false
  | .dataAbort => false
  | .irq => false

/-- The CPSR after an entry: the mode entered, T = 0, I = 1, F = 1 for Reset and FIQ, the flags unchanged (R551). -/
def Exception.cpsr (e : Exception) (old : Psr) : Psr :=
  { old with m := e.mode.bits, t := false, i := true, f := old.f || e.setsF }

/-- `Enter(E, ret)`: the new mode's R14 and SPSR, the CPSR, and the branch to the vector (R551).  Reset is not entered
this way: it writes neither R14_svc nor SPSR_svc (R556), and is `State.powerOn`. -/
def State.enterException (e : Exception) (ret : Word) (s : State) : State :=
  let c := { s.cpu with cpsr := e.cpsr s.cpu.cpsr }
  let c := c.setBankReg e.mode.bank 14#4 ret
  let c := c.setCurrentSpsr s.cpu.cpsr
  { s with cpu := c }.branch e.vector

/-- `raise SoftwareInterrupt`, with the return address `A + w` (R560). -/
def State.takeSwi (s : State) : State := s.enterException .swi (s.cpu.pc + widthOf s.cpu.cpsr.t)

/-- `raise UndefinedInstruction`, with the return address `A + w` and one internal cycle (R551, R559). -/
def State.takeUndefined (s : State) : State :=
  (s.internal 1).enterException .undefinedInstruction (s.cpu.pc + widthOf s.cpu.cpsr.t)

/-- The IRQ entry between instructions, with the return address `N + 4` (R561). -/
def State.takeIrq (s : State) : State := s.enterException .irq (s.cpu.pc + 4#32)

/-- `RestoreCpsrFromSpsr()`: the return from an exception (40_arm_dataproc.md R275, 60_exceptions.md R557). -/
def State.restoreCpsr (s : State) : Except Fault State :=
  match s.cpu.currentSpsr with
  | some p => if modeValid p.m then .ok (s.setCpsr p) else .error (.invalidMode p.m)
  | none => if s.strict then .error (.unpredictable .spsrInUserSystem) else .ok s

/-! ## Data transfers of registers (43_arm_loadstore.md R353..R366) -/

/-- The five kinds of load. -/
inductive LoadKind where
  | word | byte | half | signedByte | signedHalf
  deriving DecidableEq, Repr

/-- The width of the access a load makes: a signed halfword at an odd address is a byte (R366). -/
def LoadKind.width (k : LoadKind) (a : Word) : Width :=
  match k with
  | .word => .word
  | .byte => .byte
  | .half => .half
  | .signedByte => .byte
  | .signedHalf => if a.getLsbD 0 then .byte else .half

/-- The value a load yields from the value read: rotated by a misaligned address, or sign-extended (R354, R356,
R358, R363, R365, R366). -/
def LoadKind.extract (k : LoadKind) (a v : Word) : Word :=
  match k with
  | .word => v.rotateRight (8 * (a.extractLsb' 0 2).toNat)
  | .byte => v
  | .half => if a.getLsbD 0 then v.rotateRight 8 else v
  | .signedByte => (v.extractLsb' 0 8).signExtend 32
  | .signedHalf => if a.getLsbD 0 then (v.extractLsb' 0 8).signExtend 32 else (v.extractLsb' 0 16).signExtend 32

/-- The first access of a load: the value, and the state with the access charged. -/
def State.loadValue (k : LoadKind) (a : Word) (s : State) : Word × State :=
  let r := s.sys.load .nonseq (k.width a) a
  (k.extract a r.1, s.withSys r.2)

/-- The base written back, unless the base is R15 (R352). -/
def State.writeBack (wb : Bool) (rn : RegNum) (moved : Word) (s : State) : State := if wb then s.setReg rn moved else s

/-- A load: the access, the write-back, one internal cycle, and the destination, R15 being a branch (R353, R355). -/
def State.loadReg (k : LoadKind) (a : Word) (wb : Bool) (rn : RegNum) (moved : Word) (rd : RegNum) (s : State) : State :=
  let r := s.loadValue k a
  ((r.2.writeBack wb rn moved).internal 1).finish rd r.1

/-- A store: the access, the write-back and the advance (R353). -/
def State.storeReg (w : Width) (a v : Word) (wb : Bool) (rn : RegNum) (moved : Word) (s : State) : Result :=
  orFault (s.sys.store .nonseq w a v) (fun y => .next ((s.withSys y).writeBack wb rn moved).advance)

/-! ## Block transfers (43_arm_loadstore.md R367..R371) -/

/-- The reads of a load-multiple: the first access of the given class, the rest sequential. -/
def Sys.loadBlock : Access → Word → List RegNum → Sys → List (RegNum × Word) × Sys
  | _, _, [], y => ([], y)
  | kind, a, r :: rest, y =>
      let v := y.load kind .word a
      let t := v.2.loadBlock .seq (a + 4#32) rest
      ((r, v.1) :: t.1, t.2)

/-- The loaded registers of a view written; R15 is no register of a view. -/
def State.writeLoaded (b : Bank) : List (RegNum × Word) → State → State
  | [], s => s
  | (r, v) :: rest, s => (s.setRegIn b r v).writeLoaded b rest

/-- The value loaded for R15, if the list has it. -/
def loadedPc (l : List (RegNum × Word)) : Option Word := (l.find? (fun x => x.1 == 15#4)).map (fun x => x.2)

/-- The writes of a store-multiple, each value read as it is stored. -/
def State.storeBlock (b : Bank) : Access → Word → List RegNum → State → Except Fault State
  | _, _, [], s => .ok s
  | kind, a, r :: rest, s =>
      match s.sys.store kind .word a (s.regIn b s.pcStore r) with
      | .ok y => (s.withSys y).storeBlock b .seq (a + 4#32) rest
      | .error f => .error f

/-- A store-multiple: the first store, the write-back, then the rest (R367, R369). -/
def State.storeMultiple (b : Bank) (plan : BlockPlan) (wb : Bool) (rn : RegNum) (s : State) : Result :=
  match plan.regs with
  | [] => .next s.advance
  | r :: rest =>
      orFault (s.storeBlock b .nonseq plan.start [r]) (fun s =>
        orFault ((s.writeBack wb rn plan.moved).storeBlock b .seq (plan.start + 4#32) rest) (fun s => .next s.advance))

/-- A load-multiple: the reads, the write-back, the loaded registers, one internal cycle, and R15 last: with the CPSR
restored first when `restore` says so (R367, R370). -/
def State.loadMultiple (b : Bank) (plan : BlockPlan) (wb : Bool) (rn : RegNum) (restore : Bool) (s : State) : Result :=
  let r := s.sys.loadBlock .nonseq plan.start plan.regs
  let s := (((s.withSys r.2).writeBack wb rn plan.moved).writeLoaded b r.1).internal 1
  match loadedPc r.1 with
  | none => .next s.advance
  | some target =>
      if restore then orFault s.restoreCpsr (fun s => .next (s.branch target)) else .next (s.branch target)

end Sys2Proof.Machine
end

