-- ==== Sys2Proof/Machine/ArmBlock.lean ====
section
/-! DEFINITION. ARM block transfers (spec/43_arm_loadstore.md R367..R371). -/

namespace Sys2Proof.Machine

open Sys2Proof

/-- The plan of a block transfer from its base register (R367, R371). -/
def State.plan (st : State) (p u : Bool) (rn : RegNum) (list : BitVec 16) : BlockPlan := blockPlan p u (st.reg rn) list

/-- LDM and STM with `S = 0` (R367, R371). -/
def blockTransfer (load p u w : Bool) (rn : RegNum) (list : BitVec 16) (st : State) : Result :=
  st.unpredictable .blockBaseR15 (rn == 15#4)
    (if load then st.loadMultiple st.cpu.bank (st.plan p u rn list) w rn false
     else st.storeMultiple st.cpu.bank (st.plan p u rn list) w rn)

/-- Whether R15 is transferred; an empty list transfers it alone (R368). -/
def listHasPc (list : BitVec 16) : Bool := list.getLsbD 15 || list == 0#16

/-- LDM and STM with `S = 1` in a mode that has an SPSR (R370): the load of R15 restores the CPSR; every other form
reaches the User bank. -/
def blockTransferPrivileged (load p u w : Bool) (rn : RegNum) (list : BitVec 16) (st : State) : Result :=
  if load && listHasPc list then st.loadMultiple st.cpu.bank (st.plan p u rn list) w rn true
  else
    st.unpredictable .userBankWriteBack w
      (if load then st.loadMultiple .usr (st.plan p u rn list) w rn false
       else st.storeMultiple .usr (st.plan p u rn list) w rn)

/-- LDM and STM with `S = 1` (R370, R371): in User and System mode as with `S = 0`. -/
def blockTransferS (load p u w : Bool) (rn : RegNum) (list : BitVec 16) (st : State) : Result :=
  st.unpredictable .sBitUserSystem st.cpu.noSpsr
    (if st.cpu.noSpsr then blockTransfer load p u w rn list st
     else st.unpredictable .blockBaseR15 (rn == 15#4) (blockTransferPrivileged load p u w rn list st))

/-- STM, STM (R367). -/
def execStm (cond : Cond) (p u w : Bool) (rn : RegNum) (list : BitVec 16) (st : State) : Result :=
  st.whenPassed cond (blockTransfer false p u w rn list)

/-- LDM, LDM (R367). -/
def execLdm (cond : Cond) (p u w : Bool) (rn : RegNum) (list : BitVec 16) (st : State) : Result :=
  st.whenPassed cond (blockTransfer true p u w rn list)

/-- STM, STM (S) (R367). -/
def execStmS (cond : Cond) (p u w : Bool) (rn : RegNum) (list : BitVec 16) (st : State) : Result :=
  st.whenPassed cond (blockTransferS false p u w rn list)

/-- LDM, LDM (S) (R367). -/
def execLdmS (cond : Cond) (p u w : Bool) (rn : RegNum) (list : BitVec 16) (st : State) : Result :=
  st.whenPassed cond (blockTransferS true p u w rn list)

end Sys2Proof.Machine
end

