-- ==== Sys2Proof/Machine/ArmDataProc.lean ====
section
/-! DEFINITION. ARM data processing (spec/40_arm_dataproc.md): the common frame R274, the three operand forms
R271..R273, and the sixteen instructions R280..R295. -/

namespace Sys2Proof.Machine

open Sys2Proof

/-- The frame of every data-processing instruction, from its operands on (R274): the result to `Rd` or to the PC, with
the CPSR restored first when `S = 1` and `Rd = 15`, and the flags otherwise when `S = 1`. -/
def dataProcessing (op : DpOp) (s : Bool) (rd : RegNum) (a b : Word) (sc : Bool) (st : State) : Result :=
  let r := dpCompute op a b st.cpu.cpsr.c st.cpu.cpsr.v sc
  if dpWritesRd op && rd == 15#4 then
    if s then orFault st.restoreCpsr (fun st => .next (st.branch r.result)) else .next (st.branch r.result)
  else
    let st := if dpWritesRd op then st.setReg rd r.result else st
    .next (if s then st.setCpsr (st.cpu.cpsr.setNzcv r) else st).advance

/-- The immediate-shift form (R271). -/
def dpShiftImmediate (op : DpOp) (s : Bool) (rn rd : RegNum) (amount : BitVec 5) (kind : ShiftKind) (rm : RegNum)
    (st : State) : Result :=
  let o := shiftImmediate kind amount (st.reg rm) st.cpu.cpsr.c
  dataProcessing op s rd (st.reg rn) o.1 o.2 st

/-- The register-shift form (R272): one internal cycle, and R15 reads as `A + 12`. -/
def dpShiftRegister (op : DpOp) (s : Bool) (rn rd rs : RegNum) (kind : ShiftKind) (rm : RegNum) (st : State) : Result :=
  st.unpredictable .shiftByR15 (rs == 15#4)
    (st.unpredictable .regShiftWritesR15 (dpWritesRd op && rd == 15#4)
      (let o := shiftRegister kind ((st.regStore rs).extractLsb' 0 8) (st.regStore rm) st.cpu.cpsr.c
       dataProcessing op s rd (st.regStore rn) o.1 o.2 (st.internal 1)))

/-- The immediate form (R273). -/
def dpImmediate (op : DpOp) (s : Bool) (rn rd : RegNum) (rotate : BitVec 4) (imm8 : BitVec 8) (st : State) : Result :=
  let o := immediateOperand rotate imm8 st.cpu.cpsr.c
  dataProcessing op s rd (st.reg rn) o.1 o.2 st

/-- AND, DP, immediate shift (R280). -/
def execAndShi (cond : Cond) (s : Bool) (rn rd : RegNum) (shiftImm : BitVec 5) (shift : ShiftKind) (rm : RegNum)
    (st : State) : Result :=
  st.whenPassed cond (dpShiftImmediate .and s rn rd shiftImm shift rm)

/-- AND, DP, register shift (R280). -/
def execAndShr (cond : Cond) (s : Bool) (rn rd rs : RegNum) (shift : ShiftKind) (rm : RegNum) (st : State) : Result :=
  st.whenPassed cond (dpShiftRegister .and s rn rd rs shift rm)

/-- AND, DP, immediate (R280). -/
def execAndImm (cond : Cond) (s : Bool) (rn rd : RegNum) (rotate : BitVec 4) (imm8 : BitVec 8)
    (st : State) : Result :=
  st.whenPassed cond (dpImmediate .and s rn rd rotate imm8)

/-- EOR, DP, immediate shift (R281). -/
def execEorShi (cond : Cond) (s : Bool) (rn rd : RegNum) (shiftImm : BitVec 5) (shift : ShiftKind) (rm : RegNum)
    (st : State) : Result :=
  st.whenPassed cond (dpShiftImmediate .eor s rn rd shiftImm shift rm)

/-- EOR, DP, register shift (R281). -/
def execEorShr (cond : Cond) (s : Bool) (rn rd rs : RegNum) (shift : ShiftKind) (rm : RegNum) (st : State) : Result :=
  st.whenPassed cond (dpShiftRegister .eor s rn rd rs shift rm)

/-- EOR, DP, immediate (R281). -/
def execEorImm (cond : Cond) (s : Bool) (rn rd : RegNum) (rotate : BitVec 4) (imm8 : BitVec 8)
    (st : State) : Result :=
  st.whenPassed cond (dpImmediate .eor s rn rd rotate imm8)

/-- SUB, DP, immediate shift (R282). -/
def execSubShi (cond : Cond) (s : Bool) (rn rd : RegNum) (shiftImm : BitVec 5) (shift : ShiftKind) (rm : RegNum)
    (st : State) : Result :=
  st.whenPassed cond (dpShiftImmediate .sub s rn rd shiftImm shift rm)

/-- SUB, DP, register shift (R282). -/
def execSubShr (cond : Cond) (s : Bool) (rn rd rs : RegNum) (shift : ShiftKind) (rm : RegNum) (st : State) : Result :=
  st.whenPassed cond (dpShiftRegister .sub s rn rd rs shift rm)

/-- SUB, DP, immediate (R282). -/
def execSubImm (cond : Cond) (s : Bool) (rn rd : RegNum) (rotate : BitVec 4) (imm8 : BitVec 8)
    (st : State) : Result :=
  st.whenPassed cond (dpImmediate .sub s rn rd rotate imm8)

/-- RSB, DP, immediate shift (R283). -/
def execRsbShi (cond : Cond) (s : Bool) (rn rd : RegNum) (shiftImm : BitVec 5) (shift : ShiftKind) (rm : RegNum)
    (st : State) : Result :=
  st.whenPassed cond (dpShiftImmediate .rsb s rn rd shiftImm shift rm)

/-- RSB, DP, register shift (R283). -/
def execRsbShr (cond : Cond) (s : Bool) (rn rd rs : RegNum) (shift : ShiftKind) (rm : RegNum) (st : State) : Result :=
  st.whenPassed cond (dpShiftRegister .rsb s rn rd rs shift rm)

/-- RSB, DP, immediate (R283). -/
def execRsbImm (cond : Cond) (s : Bool) (rn rd : RegNum) (rotate : BitVec 4) (imm8 : BitVec 8)
    (st : State) : Result :=
  st.whenPassed cond (dpImmediate .rsb s rn rd rotate imm8)

/-- ADD, DP, immediate shift (R284). -/
def execAddShi (cond : Cond) (s : Bool) (rn rd : RegNum) (shiftImm : BitVec 5) (shift : ShiftKind) (rm : RegNum)
    (st : State) : Result :=
  st.whenPassed cond (dpShiftImmediate .add s rn rd shiftImm shift rm)

/-- ADD, DP, register shift (R284). -/
def execAddShr (cond : Cond) (s : Bool) (rn rd rs : RegNum) (shift : ShiftKind) (rm : RegNum) (st : State) : Result :=
  st.whenPassed cond (dpShiftRegister .add s rn rd rs shift rm)

/-- ADD, DP, immediate (R284). -/
def execAddImm (cond : Cond) (s : Bool) (rn rd : RegNum) (rotate : BitVec 4) (imm8 : BitVec 8)
    (st : State) : Result :=
  st.whenPassed cond (dpImmediate .add s rn rd rotate imm8)

/-- ADC, DP, immediate shift (R285). -/
def execAdcShi (cond : Cond) (s : Bool) (rn rd : RegNum) (shiftImm : BitVec 5) (shift : ShiftKind) (rm : RegNum)
    (st : State) : Result :=
  st.whenPassed cond (dpShiftImmediate .adc s rn rd shiftImm shift rm)

/-- ADC, DP, register shift (R285). -/
def execAdcShr (cond : Cond) (s : Bool) (rn rd rs : RegNum) (shift : ShiftKind) (rm : RegNum) (st : State) : Result :=
  st.whenPassed cond (dpShiftRegister .adc s rn rd rs shift rm)

/-- ADC, DP, immediate (R285). -/
def execAdcImm (cond : Cond) (s : Bool) (rn rd : RegNum) (rotate : BitVec 4) (imm8 : BitVec 8)
    (st : State) : Result :=
  st.whenPassed cond (dpImmediate .adc s rn rd rotate imm8)

/-- SBC, DP, immediate shift (R286). -/
def execSbcShi (cond : Cond) (s : Bool) (rn rd : RegNum) (shiftImm : BitVec 5) (shift : ShiftKind) (rm : RegNum)
    (st : State) : Result :=
  st.whenPassed cond (dpShiftImmediate .sbc s rn rd shiftImm shift rm)

/-- SBC, DP, register shift (R286). -/
def execSbcShr (cond : Cond) (s : Bool) (rn rd rs : RegNum) (shift : ShiftKind) (rm : RegNum) (st : State) : Result :=
  st.whenPassed cond (dpShiftRegister .sbc s rn rd rs shift rm)

/-- SBC, DP, immediate (R286). -/
def execSbcImm (cond : Cond) (s : Bool) (rn rd : RegNum) (rotate : BitVec 4) (imm8 : BitVec 8)
    (st : State) : Result :=
  st.whenPassed cond (dpImmediate .sbc s rn rd rotate imm8)

/-- RSC, DP, immediate shift (R287). -/
def execRscShi (cond : Cond) (s : Bool) (rn rd : RegNum) (shiftImm : BitVec 5) (shift : ShiftKind) (rm : RegNum)
    (st : State) : Result :=
  st.whenPassed cond (dpShiftImmediate .rsc s rn rd shiftImm shift rm)

/-- RSC, DP, register shift (R287). -/
def execRscShr (cond : Cond) (s : Bool) (rn rd rs : RegNum) (shift : ShiftKind) (rm : RegNum) (st : State) : Result :=
  st.whenPassed cond (dpShiftRegister .rsc s rn rd rs shift rm)

/-- RSC, DP, immediate (R287). -/
def execRscImm (cond : Cond) (s : Bool) (rn rd : RegNum) (rotate : BitVec 4) (imm8 : BitVec 8)
    (st : State) : Result :=
  st.whenPassed cond (dpImmediate .rsc s rn rd rotate imm8)

/-- TST, DP, immediate shift (R288). -/
def execTstShi (cond : Cond) (rn : RegNum) (shiftImm : BitVec 5) (shift : ShiftKind) (rm : RegNum)
    (st : State) : Result :=
  st.whenPassed cond (dpShiftImmediate .tst true rn 0#4 shiftImm shift rm)

/-- TST, DP, register shift (R288). -/
def execTstShr (cond : Cond) (rn rs : RegNum) (shift : ShiftKind) (rm : RegNum) (st : State) : Result :=
  st.whenPassed cond (dpShiftRegister .tst true rn 0#4 rs shift rm)

/-- TST, DP, immediate (R288). -/
def execTstImm (cond : Cond) (rn : RegNum) (rotate : BitVec 4) (imm8 : BitVec 8) (st : State) : Result :=
  st.whenPassed cond (dpImmediate .tst true rn 0#4 rotate imm8)

/-- TEQ, DP, immediate shift (R289). -/
def execTeqShi (cond : Cond) (rn : RegNum) (shiftImm : BitVec 5) (shift : ShiftKind) (rm : RegNum)
    (st : State) : Result :=
  st.whenPassed cond (dpShiftImmediate .teq true rn 0#4 shiftImm shift rm)

/-- TEQ, DP, register shift (R289). -/
def execTeqShr (cond : Cond) (rn rs : RegNum) (shift : ShiftKind) (rm : RegNum) (st : State) : Result :=
  st.whenPassed cond (dpShiftRegister .teq true rn 0#4 rs shift rm)

/-- TEQ, DP, immediate (R289). -/
def execTeqImm (cond : Cond) (rn : RegNum) (rotate : BitVec 4) (imm8 : BitVec 8) (st : State) : Result :=
  st.whenPassed cond (dpImmediate .teq true rn 0#4 rotate imm8)

/-- CMP, DP, immediate shift (R290). -/
def execCmpShi (cond : Cond) (rn : RegNum) (shiftImm : BitVec 5) (shift : ShiftKind) (rm : RegNum)
    (st : State) : Result :=
  st.whenPassed cond (dpShiftImmediate .cmp true rn 0#4 shiftImm shift rm)

/-- CMP, DP, register shift (R290). -/
def execCmpShr (cond : Cond) (rn rs : RegNum) (shift : ShiftKind) (rm : RegNum) (st : State) : Result :=
  st.whenPassed cond (dpShiftRegister .cmp true rn 0#4 rs shift rm)

/-- CMP, DP, immediate (R290). -/
def execCmpImm (cond : Cond) (rn : RegNum) (rotate : BitVec 4) (imm8 : BitVec 8) (st : State) : Result :=
  st.whenPassed cond (dpImmediate .cmp true rn 0#4 rotate imm8)

/-- CMN, DP, immediate shift (R291). -/
def execCmnShi (cond : Cond) (rn : RegNum) (shiftImm : BitVec 5) (shift : ShiftKind) (rm : RegNum)
    (st : State) : Result :=
  st.whenPassed cond (dpShiftImmediate .cmn true rn 0#4 shiftImm shift rm)

/-- CMN, DP, register shift (R291). -/
def execCmnShr (cond : Cond) (rn rs : RegNum) (shift : ShiftKind) (rm : RegNum) (st : State) : Result :=
  st.whenPassed cond (dpShiftRegister .cmn true rn 0#4 rs shift rm)

/-- CMN, DP, immediate (R291). -/
def execCmnImm (cond : Cond) (rn : RegNum) (rotate : BitVec 4) (imm8 : BitVec 8) (st : State) : Result :=
  st.whenPassed cond (dpImmediate .cmn true rn 0#4 rotate imm8)

/-- ORR, DP, immediate shift (R292). -/
def execOrrShi (cond : Cond) (s : Bool) (rn rd : RegNum) (shiftImm : BitVec 5) (shift : ShiftKind) (rm : RegNum)
    (st : State) : Result :=
  st.whenPassed cond (dpShiftImmediate .orr s rn rd shiftImm shift rm)

/-- ORR, DP, register shift (R292). -/
def execOrrShr (cond : Cond) (s : Bool) (rn rd rs : RegNum) (shift : ShiftKind) (rm : RegNum) (st : State) : Result :=
  st.whenPassed cond (dpShiftRegister .orr s rn rd rs shift rm)

/-- ORR, DP, immediate (R292). -/
def execOrrImm (cond : Cond) (s : Bool) (rn rd : RegNum) (rotate : BitVec 4) (imm8 : BitVec 8)
    (st : State) : Result :=
  st.whenPassed cond (dpImmediate .orr s rn rd rotate imm8)

/-- MOV, DP, immediate shift (R293). -/
def execMovShi (cond : Cond) (s : Bool) (rd : RegNum) (shiftImm : BitVec 5) (shift : ShiftKind) (rm : RegNum)
    (st : State) : Result :=
  st.whenPassed cond (dpShiftImmediate .mov s 0#4 rd shiftImm shift rm)

/-- MOV, DP, register shift (R293). -/
def execMovShr (cond : Cond) (s : Bool) (rd rs : RegNum) (shift : ShiftKind) (rm : RegNum) (st : State) : Result :=
  st.whenPassed cond (dpShiftRegister .mov s 0#4 rd rs shift rm)

/-- MOV, DP, immediate (R293). -/
def execMovImm (cond : Cond) (s : Bool) (rd : RegNum) (rotate : BitVec 4) (imm8 : BitVec 8) (st : State) : Result :=
  st.whenPassed cond (dpImmediate .mov s 0#4 rd rotate imm8)

/-- BIC, DP, immediate shift (R294). -/
def execBicShi (cond : Cond) (s : Bool) (rn rd : RegNum) (shiftImm : BitVec 5) (shift : ShiftKind) (rm : RegNum)
    (st : State) : Result :=
  st.whenPassed cond (dpShiftImmediate .bic s rn rd shiftImm shift rm)

/-- BIC, DP, register shift (R294). -/
def execBicShr (cond : Cond) (s : Bool) (rn rd rs : RegNum) (shift : ShiftKind) (rm : RegNum) (st : State) : Result :=
  st.whenPassed cond (dpShiftRegister .bic s rn rd rs shift rm)

/-- BIC, DP, immediate (R294). -/
def execBicImm (cond : Cond) (s : Bool) (rn rd : RegNum) (rotate : BitVec 4) (imm8 : BitVec 8)
    (st : State) : Result :=
  st.whenPassed cond (dpImmediate .bic s rn rd rotate imm8)

/-- MVN, DP, immediate shift (R295). -/
def execMvnShi (cond : Cond) (s : Bool) (rd : RegNum) (shiftImm : BitVec 5) (shift : ShiftKind) (rm : RegNum)
    (st : State) : Result :=
  st.whenPassed cond (dpShiftImmediate .mvn s 0#4 rd shiftImm shift rm)

/-- MVN, DP, register shift (R295). -/
def execMvnShr (cond : Cond) (s : Bool) (rd rs : RegNum) (shift : ShiftKind) (rm : RegNum) (st : State) : Result :=
  st.whenPassed cond (dpShiftRegister .mvn s 0#4 rd rs shift rm)

/-- MVN, DP, immediate (R295). -/
def execMvnImm (cond : Cond) (s : Bool) (rd : RegNum) (rotate : BitVec 4) (imm8 : BitVec 8) (st : State) : Result :=
  st.whenPassed cond (dpImmediate .mvn s 0#4 rd rotate imm8)

end Sys2Proof.Machine
end

