-- ==== Sys2Proof/Machine/ArmLoadStore.lean ====
section
/-! DEFINITION. ARM single, halfword and signed transfers and swaps (spec/43_arm_loadstore.md R350..R366, R372, R373). -/

namespace Sys2Proof.Machine

open Sys2Proof

/-- How a transfer addresses: pre- or post-indexed, up or down, and whether the base is written back (R352). -/
structure Indexing where
  pre       : Bool
  up        : Bool
  writeBack : Bool
  deriving DecidableEq, Repr

/-- The pre-indexed forms. -/
def Indexing.preIndexed (u w : Bool) : Indexing := { pre := true, up := u, writeBack := w }

/-- The post-indexed forms and the T forms, which always write the base back (R352, R361). -/
def Indexing.postIndexed (u : Bool) : Indexing := { pre := false, up := u, writeBack := true }

/-- The halfword transfers: a post-indexed one always writes the base back (R352). -/
def Indexing.halfword (p u w : Bool) : Indexing := { pre := p, up := u, writeBack := !p || w }

/-- The address of a transfer (R352). -/
def Indexing.address (x : Indexing) (base offset : Word) : Word := if x.pre then moveBase x.up base offset else base

/-- The UNPREDICTABLE case of a load into R15, none for LDR, which branches (R355). -/
def LoadKind.toR15Case : LoadKind → Option UnpredCase
  | .word => none
  | .byte => some .ldrbToR15
  | .half => some .ldrhToR15
  | .signedByte => some .ldrsbToR15
  | .signedHalf => some .ldrshToR15

/-- The UNPREDICTABLE case of a store of R15, none for STR (R359, R364). -/
def Width.ofR15Case : Width → Option UnpredCase
  | .word => none
  | .byte => some .strbOfR15
  | .half => some .strhOfR15

/-- `Unpredictable(c) else k` for a case that may be none. -/
def State.unpredictableCase (s : State) (c : Option UnpredCase) (bad : Bool) (k : Result) : Result :=
  match c with
  | some c => s.unpredictable c bad k
  | none => k

/-- A load with its offset (R352, R353). -/
def loadTransfer (k : LoadKind) (x : Indexing) (rn rd : RegNum) (offset : Word) (st : State) : Result :=
  st.unpredictable .writeBackR15 (x.writeBack && rn == 15#4)
    (st.unpredictable .loadWriteBackRd (x.writeBack && rd == rn)
      (st.unpredictableCase k.toR15Case (rd == 15#4)
        (let base := st.reg rn
         .next (st.loadReg k (x.address base offset) x.writeBack rn (moveBase x.up base offset) rd))))

/-- A store with its offset (R352, R353): R15 stores `A + 12`. -/
def storeTransfer (w : Width) (x : Indexing) (rn rd : RegNum) (offset : Word) (st : State) : Result :=
  st.unpredictable .writeBackR15 (x.writeBack && rn == 15#4)
    (st.unpredictableCase w.ofR15Case (rd == 15#4)
      (let base := st.reg rn
       st.storeReg w (x.address base offset) (st.regStore rd) x.writeBack rn (moveBase x.up base offset)))

/-- The offset of the register forms of a single transfer (R350). -/
def shiftedOffset (amount : BitVec 5) (kind : ShiftKind) (rm : RegNum) (st : State) : Word :=
  (shiftImmediate kind amount (st.reg rm) st.cpu.cpsr.c).1

/-- A load with an immediate offset (R350). -/
def loadImm (k : LoadKind) (x : Indexing) (rn rd : RegNum) (imm12 : BitVec 12) (st : State) : Result :=
  loadTransfer k x rn rd (imm12.zeroExtend 32) st

/-- A store with an immediate offset (R350). -/
def storeImm (w : Width) (x : Indexing) (rn rd : RegNum) (imm12 : BitVec 12) (st : State) : Result :=
  storeTransfer w x rn rd (imm12.zeroExtend 32) st

/-- A load with a shifted register offset (R350). -/
def loadShifted (k : LoadKind) (x : Indexing) (rn rd : RegNum) (amount : BitVec 5) (kind : ShiftKind) (rm : RegNum)
    (st : State) : Result :=
  st.unpredictable .offsetR15 (rm == 15#4) (loadTransfer k x rn rd (shiftedOffset amount kind rm st) st)

/-- A store with a shifted register offset (R350). -/
def storeShifted (w : Width) (x : Indexing) (rn rd : RegNum) (amount : BitVec 5) (kind : ShiftKind) (rm : RegNum)
    (st : State) : Result :=
  st.unpredictable .offsetR15 (rm == 15#4) (storeTransfer w x rn rd (shiftedOffset amount kind rm st) st)

/-- A halfword or signed load with an immediate offset (R351, R352). -/
def loadHalfImm (k : LoadKind) (p u w : Bool) (rn rd : RegNum) (immH immL : BitVec 4) (st : State) : Result :=
  st.unpredictable .halfPostIndexW (!p && w) (loadTransfer k (.halfword p u w) rn rd (halfOffset immH immL) st)

/-- A halfword or signed load with a register offset (R351, R352). -/
def loadHalfReg (k : LoadKind) (p u w : Bool) (rn rd rm : RegNum) (st : State) : Result :=
  st.unpredictable .halfPostIndexW (!p && w)
    (st.unpredictable .offsetR15 (rm == 15#4) (loadTransfer k (.halfword p u w) rn rd (st.reg rm) st))

/-- A halfword store with an immediate offset (R351, R352). -/
def storeHalfImm (p u w : Bool) (rn rd : RegNum) (immH immL : BitVec 4) (st : State) : Result :=
  st.unpredictable .halfPostIndexW (!p && w) (storeTransfer .half (.halfword p u w) rn rd (halfOffset immH immL) st)

/-- A halfword store with a register offset (R351, R352). -/
def storeHalfReg (p u w : Bool) (rn rd rm : RegNum) (st : State) : Result :=
  st.unpredictable .halfPostIndexW (!p && w)
    (st.unpredictable .offsetR15 (rm == 15#4) (storeTransfer .half (.halfword p u w) rn rd (st.reg rm) st))

/-- SWP and SWPB: a read, a write, one internal cycle, and `Rd` (R372, R373). -/
def swap (k : LoadKind) (w : Width) (rn rd rm : RegNum) (st : State) : Result :=
  st.unpredictable .swpR15 (rn == 15#4 || rd == 15#4 || rm == 15#4)
    (st.unpredictable .swpOverlap (rn == rm || rn == rd)
      (let a := st.reg rn
       let r := st.loadValue k a
       orFault (r.2.sys.store .nonseq w a (st.reg rm)) (fun y => .next (((r.2.withSys y).internal 1).finish rd r.1))))

/-- SWP, SWP (R372). -/
def execSwp (cond : Cond) (rn rd rm : RegNum) (st : State) : Result := st.whenPassed cond (swap .word .word rn rd rm)

/-- SWPB, SWPB (R373). -/
def execSwpb (cond : Cond) (rn rd rm : RegNum) (st : State) : Result :=
  st.whenPassed cond (swap .byte .byte rn rd rm)

/-- STRH, STRH (reg) (R364). -/
def execStrhReg (cond : Cond) (p u w : Bool) (rn rd rm : RegNum) (st : State) : Result :=
  st.whenPassed cond (storeHalfReg p u w rn rd rm)

/-- STRH, STRH (imm) (R364). -/
def execStrhImm (cond : Cond) (p u w : Bool) (rn rd : RegNum) (immH immL : BitVec 4) (st : State) : Result :=
  st.whenPassed cond (storeHalfImm p u w rn rd immH immL)

/-- LDRH, LDRH (reg) (R363). -/
def execLdrhReg (cond : Cond) (p u w : Bool) (rn rd rm : RegNum) (st : State) : Result :=
  st.whenPassed cond (loadHalfReg .half p u w rn rd rm)

/-- LDRH, LDRH (imm) (R363). -/
def execLdrhImm (cond : Cond) (p u w : Bool) (rn rd : RegNum) (immH immL : BitVec 4) (st : State) : Result :=
  st.whenPassed cond (loadHalfImm .half p u w rn rd immH immL)

/-- LDRSB, LDRSB (reg) (R365). -/
def execLdrsbReg (cond : Cond) (p u w : Bool) (rn rd rm : RegNum) (st : State) : Result :=
  st.whenPassed cond (loadHalfReg .signedByte p u w rn rd rm)

/-- LDRSB, LDRSB (imm) (R365). -/
def execLdrsbImm (cond : Cond) (p u w : Bool) (rn rd : RegNum) (immH immL : BitVec 4) (st : State) : Result :=
  st.whenPassed cond (loadHalfImm .signedByte p u w rn rd immH immL)

/-- LDRSH, LDRSH (reg) (R366). -/
def execLdrshReg (cond : Cond) (p u w : Bool) (rn rd rm : RegNum) (st : State) : Result :=
  st.whenPassed cond (loadHalfReg .signedHalf p u w rn rd rm)

/-- LDRSH, LDRSH (imm) (R366). -/
def execLdrshImm (cond : Cond) (p u w : Bool) (rn rd : RegNum) (immH immL : BitVec 4) (st : State) : Result :=
  st.whenPassed cond (loadHalfImm .signedHalf p u w rn rd immH immL)

/-- STR, STR (imm), pre-indexed (R357). -/
def execStrImmPre (cond : Cond) (u w : Bool) (rn rd : RegNum) (imm12 : BitVec 12) (st : State) : Result :=
  st.whenPassed cond (storeImm .word (.preIndexed u w) rn rd imm12)

/-- STR, STR (imm), post-indexed (R357). -/
def execStrImmPost (cond : Cond) (u : Bool) (rn rd : RegNum) (imm12 : BitVec 12) (st : State) : Result :=
  st.whenPassed cond (storeImm .word (.postIndexed u) rn rd imm12)

/-- STRT, STRT (imm) (R361). -/
def execStrtImm (cond : Cond) (u : Bool) (rn rd : RegNum) (imm12 : BitVec 12) (st : State) : Result :=
  st.whenPassed cond (storeImm .word (.postIndexed u) rn rd imm12)

/-- STR, STR (reg), pre-indexed (R357). -/
def execStrRegPre (cond : Cond) (u w : Bool) (rn rd : RegNum) (shiftImm : BitVec 5) (shift : ShiftKind) (rm : RegNum)
    (st : State) : Result :=
  st.whenPassed cond (storeShifted .word (.preIndexed u w) rn rd shiftImm shift rm)

/-- STR, STR (reg), post-indexed (R357). -/
def execStrRegPost (cond : Cond) (u : Bool) (rn rd : RegNum) (shiftImm : BitVec 5) (shift : ShiftKind) (rm : RegNum)
    (st : State) : Result :=
  st.whenPassed cond (storeShifted .word (.postIndexed u) rn rd shiftImm shift rm)

/-- STRT, STRT (reg) (R361). -/
def execStrtReg (cond : Cond) (u : Bool) (rn rd : RegNum) (shiftImm : BitVec 5) (shift : ShiftKind) (rm : RegNum)
    (st : State) : Result :=
  st.whenPassed cond (storeShifted .word (.postIndexed u) rn rd shiftImm shift rm)

/-- LDR, LDR (imm), pre-indexed (R356). -/
def execLdrImmPre (cond : Cond) (u w : Bool) (rn rd : RegNum) (imm12 : BitVec 12) (st : State) : Result :=
  st.whenPassed cond (loadImm .word (.preIndexed u w) rn rd imm12)

/-- LDR, LDR (imm), post-indexed (R356). -/
def execLdrImmPost (cond : Cond) (u : Bool) (rn rd : RegNum) (imm12 : BitVec 12) (st : State) : Result :=
  st.whenPassed cond (loadImm .word (.postIndexed u) rn rd imm12)

/-- LDRT, LDRT (imm) (R361). -/
def execLdrtImm (cond : Cond) (u : Bool) (rn rd : RegNum) (imm12 : BitVec 12) (st : State) : Result :=
  st.whenPassed cond (loadImm .word (.postIndexed u) rn rd imm12)

/-- LDR, LDR (reg), pre-indexed (R356). -/
def execLdrRegPre (cond : Cond) (u w : Bool) (rn rd : RegNum) (shiftImm : BitVec 5) (shift : ShiftKind) (rm : RegNum)
    (st : State) : Result :=
  st.whenPassed cond (loadShifted .word (.preIndexed u w) rn rd shiftImm shift rm)

/-- LDR, LDR (reg), post-indexed (R356). -/
def execLdrRegPost (cond : Cond) (u : Bool) (rn rd : RegNum) (shiftImm : BitVec 5) (shift : ShiftKind) (rm : RegNum)
    (st : State) : Result :=
  st.whenPassed cond (loadShifted .word (.postIndexed u) rn rd shiftImm shift rm)

/-- LDRT, LDRT (reg) (R361). -/
def execLdrtReg (cond : Cond) (u : Bool) (rn rd : RegNum) (shiftImm : BitVec 5) (shift : ShiftKind) (rm : RegNum)
    (st : State) : Result :=
  st.whenPassed cond (loadShifted .word (.postIndexed u) rn rd shiftImm shift rm)

/-- STRB, STRB (imm), pre-indexed (R359). -/
def execStrbImmPre (cond : Cond) (u w : Bool) (rn rd : RegNum) (imm12 : BitVec 12) (st : State) : Result :=
  st.whenPassed cond (storeImm .byte (.preIndexed u w) rn rd imm12)

/-- STRB, STRB (imm), post-indexed (R359). -/
def execStrbImmPost (cond : Cond) (u : Bool) (rn rd : RegNum) (imm12 : BitVec 12) (st : State) : Result :=
  st.whenPassed cond (storeImm .byte (.postIndexed u) rn rd imm12)

/-- STRBT, STRBT (imm) (R361). -/
def execStrbtImm (cond : Cond) (u : Bool) (rn rd : RegNum) (imm12 : BitVec 12) (st : State) : Result :=
  st.whenPassed cond (storeImm .byte (.postIndexed u) rn rd imm12)

/-- STRB, STRB (reg), pre-indexed (R359). -/
def execStrbRegPre (cond : Cond) (u w : Bool) (rn rd : RegNum) (shiftImm : BitVec 5) (shift : ShiftKind) (rm : RegNum)
    (st : State) : Result :=
  st.whenPassed cond (storeShifted .byte (.preIndexed u w) rn rd shiftImm shift rm)

/-- STRB, STRB (reg), post-indexed (R359). -/
def execStrbRegPost (cond : Cond) (u : Bool) (rn rd : RegNum) (shiftImm : BitVec 5) (shift : ShiftKind) (rm : RegNum)
    (st : State) : Result :=
  st.whenPassed cond (storeShifted .byte (.postIndexed u) rn rd shiftImm shift rm)

/-- STRBT, STRBT (reg) (R361). -/
def execStrbtReg (cond : Cond) (u : Bool) (rn rd : RegNum) (shiftImm : BitVec 5) (shift : ShiftKind) (rm : RegNum)
    (st : State) : Result :=
  st.whenPassed cond (storeShifted .byte (.postIndexed u) rn rd shiftImm shift rm)

/-- LDRB, LDRB (imm), pre-indexed (R358). -/
def execLdrbImmPre (cond : Cond) (u w : Bool) (rn rd : RegNum) (imm12 : BitVec 12) (st : State) : Result :=
  st.whenPassed cond (loadImm .byte (.preIndexed u w) rn rd imm12)

/-- LDRB, LDRB (imm), post-indexed (R358). -/
def execLdrbImmPost (cond : Cond) (u : Bool) (rn rd : RegNum) (imm12 : BitVec 12) (st : State) : Result :=
  st.whenPassed cond (loadImm .byte (.postIndexed u) rn rd imm12)

/-- LDRBT, LDRBT (imm) (R361). -/
def execLdrbtImm (cond : Cond) (u : Bool) (rn rd : RegNum) (imm12 : BitVec 12) (st : State) : Result :=
  st.whenPassed cond (loadImm .byte (.postIndexed u) rn rd imm12)

/-- LDRB, LDRB (reg), pre-indexed (R358). -/
def execLdrbRegPre (cond : Cond) (u w : Bool) (rn rd : RegNum) (shiftImm : BitVec 5) (shift : ShiftKind) (rm : RegNum)
    (st : State) : Result :=
  st.whenPassed cond (loadShifted .byte (.preIndexed u w) rn rd shiftImm shift rm)

/-- LDRB, LDRB (reg), post-indexed (R358). -/
def execLdrbRegPost (cond : Cond) (u : Bool) (rn rd : RegNum) (shiftImm : BitVec 5) (shift : ShiftKind) (rm : RegNum)
    (st : State) : Result :=
  st.whenPassed cond (loadShifted .byte (.postIndexed u) rn rd shiftImm shift rm)

/-- LDRBT, LDRBT (reg) (R361). -/
def execLdrbtReg (cond : Cond) (u : Bool) (rn rd : RegNum) (shiftImm : BitVec 5) (shift : ShiftKind) (rm : RegNum)
    (st : State) : Result :=
  st.whenPassed cond (loadShifted .byte (.postIndexed u) rn rd shiftImm shift rm)

end Sys2Proof.Machine
end

