-- ==== Sys2Proof/Machine/ArmMultiply.lean ====
section
/-! DEFINITION. ARM multiplies (spec/41_arm_multiply.md R311..R319). -/

namespace Sys2Proof.Machine

open Sys2Proof

/-- The two results of a long multiply: `RdLo` first, then `RdHi`; a write of R15 is a branch after both (R312).
DESIGN CHOICE: where both are R15, R312 does not say whether the first write of the program counter refills too; here
there is one branch, to the high word, and one pair of fetches (log entry 33). -/
def State.finishLong (rdHi rdLo : RegNum) (hi lo : Word) (s : State) : State :=
  let s := (s.setReg rdLo lo).setReg rdHi hi
  if rdHi = 15#4 then s.branch hi else if rdLo = 15#4 then s.branch lo else s.advance

/-- MUL and MLA from the addend on (R312..R315): `m` internal cycles, and one more with an addend. -/
def multiply (s : Bool) (rd rs rm : RegNum) (addend : Word) (extra : Nat) (st : State) : Result :=
  let r := st.reg rm * st.reg rs + addend
  let st := st.internal (multiplierCycles true (st.reg rs) + extra)
  .next ((if s then st.setCpsr (st.cpu.cpsr.setNz r) else st).finish rd r)

/-- MUL and MLA (R312): `acc` is the accumulator register of MLA. -/
def multiplyShort (s : Bool) (rd rs rm : RegNum) (acc : Option RegNum) (st : State) : Result :=
  st.unpredictable .multiplyR15 (rd == 15#4 || rs == 15#4 || rm == 15#4 || acc == some 15#4)
    (st.unpredictable .mulRdRm (rd == rm)
      (match acc with
        | none => multiply s rd rs rm 0#32 0 st
        | some rn => multiply s rd rs rm (st.reg rn) 1 st))

/-- The 64-bit product (R316, R318). -/
def longProduct (signed : Bool) (a b : Word) : BitVec 64 :=
  if signed then a.signExtend 64 * b.signExtend 64 else a.zeroExtend 64 * b.zeroExtend 64

/-- The long multiplies (R312, R313, R316..R319). -/
def multiplyLong (signed acc s : Bool) (rdHi rdLo rs rm : RegNum) (st : State) : Result :=
  st.unpredictable .multiplyR15 (rdHi == 15#4 || rdLo == 15#4 || rs == 15#4 || rm == 15#4)
    (st.unpredictable .mullRdHiRdLo (rdHi == rdLo)
      (st.unpredictable .mullRdRm (rdHi == rm || rdLo == rm)
        (let product := longProduct signed (st.reg rm) (st.reg rs)
         let r := if acc then product + (st.reg rdHi ++ st.reg rdLo) else product
         let st := st.internal (multiplierCycles signed (st.reg rs) + if acc then 2 else 1)
         let st := if s then st.setCpsr { st.cpu.cpsr with n := r.getLsbD 63, z := r == 0#64 } else st
         .next (st.finishLong rdHi rdLo (r.extractLsb' 32 32) (r.extractLsb' 0 32)))))

/-- MUL, MUL (R314). -/
def execMul (cond : Cond) (s : Bool) (rd rs rm : RegNum) (st : State) : Result :=
  st.whenPassed cond (multiplyShort s rd rs rm none)

/-- MLA, MLA (R315). -/
def execMla (cond : Cond) (s : Bool) (rd rn rs rm : RegNum) (st : State) : Result :=
  st.whenPassed cond (multiplyShort s rd rs rm (some rn))

/-- UMULL, UMULL (R316). -/
def execUmull (cond : Cond) (s : Bool) (rdHi rdLo rs rm : RegNum) (st : State) : Result :=
  st.whenPassed cond (multiplyLong false false s rdHi rdLo rs rm)

/-- UMLAL, UMLAL (R317). -/
def execUmlal (cond : Cond) (s : Bool) (rdHi rdLo rs rm : RegNum) (st : State) : Result :=
  st.whenPassed cond (multiplyLong false true s rdHi rdLo rs rm)

/-- SMULL, SMULL (R318). -/
def execSmull (cond : Cond) (s : Bool) (rdHi rdLo rs rm : RegNum) (st : State) : Result :=
  st.whenPassed cond (multiplyLong true false s rdHi rdLo rs rm)

/-- SMLAL, SMLAL (R319). -/
def execSmlal (cond : Cond) (s : Bool) (rdHi rdLo rs rm : RegNum) (st : State) : Result :=
  st.whenPassed cond (multiplyLong true true s rdHi rdLo rs rm)

end Sys2Proof.Machine
end

