-- ==== Sys2Proof/Machine/ArmPsrBranch.lean ====
section
/-! DEFINITION. ARM PSR transfer and branches (spec/42_arm_psr_branch.md R330..R337). -/

namespace Sys2Proof.Machine

open Sys2Proof

/-- The CPSR with its flags field taken from a word when the mask selects it (R330, R331). -/
def maskedFlags (mask : BitVec 4) (v : Word) (p : Psr) : Psr := if mask.getLsbD 3 then p.withFlags v else p

/-- `WritePsr(0, mask, v)` (R331): the control field only in a privileged mode, an invalid mode faults, and T keeps its
value. -/
def writeCpsr (mask : BitVec 4) (v : Word) (st : State) : Result :=
  let flagged := maskedFlags mask v st.cpu.cpsr
  if mask.getLsbD 0 && !st.cpu.userMode then
    if !modeValid (v.extractLsb' 0 5) then .fault (.invalidMode (v.extractLsb' 0 5))
    else
      st.unpredictable .msrWritesT (v.getLsbD 5 != st.cpu.cpsr.t)
        (.next (st.setCpsr { flagged.withControl v with t := st.cpu.cpsr.t }).advance)
  else .next (st.setCpsr flagged).advance

/-- `WritePsr(1, mask, v)` (R331): any value, in a mode that has an SPSR. -/
def writeSpsr (mask : BitVec 4) (v : Word) (st : State) : Result :=
  match st.cpu.currentSpsr with
  | none => st.unpredictable .spsrInUserSystem true (.next st.advance)
  | some p =>
      let p := maskedFlags mask v p
      let p := if mask.getLsbD 0 then p.withControl v else p
      .next { st with cpu := st.cpu.setCurrentSpsr p }.advance

/-- `WritePsr(R, mask, v)` (R331). -/
def writePsr (r : Bool) (mask : BitVec 4) (v : Word) (st : State) : Result :=
  if r then writeSpsr mask v st else writeCpsr mask v st

/-- MRS (R332). -/
def readPsr (r : Bool) (rd : RegNum) (st : State) : Result :=
  st.unpredictable .mrsToR15 (rd == 15#4)
    (if r then
      match st.cpu.currentSpsr with
      | some p => .next (st.finish rd p.toWord)
      | none => st.unpredictable .spsrInUserSystem true (.next (st.finish rd st.cpu.cpsr.toWord))
    else .next (st.finish rd st.cpu.cpsr.toWord))

/-- MSR from a register (R333). -/
def writePsrRegister (r : Bool) (mask : BitVec 4) (rm : RegNum) (st : State) : Result :=
  st.unpredictable .msrFromR15 (rm == 15#4) (writePsr r mask (st.reg rm) st)

/-- A branch that sets T from bit 0 of its target (R337). -/
def State.exchange (target : Word) (s : State) : State :=
  (s.setCpsr { s.cpu.cpsr with t := target.getLsbD 0 }).branch target

/-- MRS, MRS (R332). -/
def execMrs (cond : Cond) (r : Bool) (rd : RegNum) (st : State) : Result := st.whenPassed cond (readPsr r rd)

/-- MSR, MSR (reg) (R333). -/
def execMsrReg (cond : Cond) (r : Bool) (mask : BitVec 4) (rm : RegNum) (st : State) : Result :=
  st.whenPassed cond (writePsrRegister r mask rm)

/-- MSR, MSR (imm) (R334). -/
def execMsrImm (cond : Cond) (r : Bool) (mask rotate : BitVec 4) (imm8 : BitVec 8) (st : State) : Result :=
  st.whenPassed cond (writePsr r mask (rotatedImmediate rotate imm8))

/-- B, B (R335). -/
def execB (cond : Cond) (offset24 : BitVec 24) (st : State) : Result :=
  st.whenPassed cond (fun st => .next (st.branch (st.pcRead + branchOffset24 offset24)))

/-- BL, BL (R336). -/
def execBl (cond : Cond) (offset24 : BitVec 24) (st : State) : Result :=
  st.whenPassed cond (fun st =>
    .next ((st.setReg 14#4 (st.cpu.pc + 4#32)).branch (st.pcRead + branchOffset24 offset24)))

/-- BX, BX (R337). -/
def execBx (cond : Cond) (rm : RegNum) (st : State) : Result :=
  st.whenPassed cond (fun st => .next (st.exchange (st.reg rm)))

end Sys2Proof.Machine
end

