-- ==== Sys2Proof/WellFormed.lean ====
section
/-! DEFINITION. Which terms of `Instr` stand for an encoding.  The argument types already bound every
field of spec/opcode_table.json; what is left to check is the condition range of the three THUMB
conditional-branch rows (spec/30_encoding.md R210, R212) and that the word an undefined row carries
lies in that row's space (R208, R213). -/

namespace Sys2Proof

/-- The bits of a condition (30_encoding.md R205). -/
def Cond.bits : Cond → BitVec 4
  | .eq => 0b0000#4
  | .ne => 0b0001#4
  | .cs => 0b0010#4
  | .cc => 0b0011#4
  | .mi => 0b0100#4
  | .pl => 0b0101#4
  | .vs => 0b0110#4
  | .vc => 0b0111#4
  | .hi => 0b1000#4
  | .ls => 0b1001#4
  | .ge => 0b1010#4
  | .lt => 0b1011#4
  | .gt => 0b1100#4
  | .le => 0b1101#4
  | .al => 0b1110#4
  | .nv => 0b1111#4

/-- Whether a word lies in the row of the opcode table with this mask and pattern. -/
def inRow (mask pattern w : BitVec n) : Bool := w &&& mask == pattern

/-- The well-formed instructions: those with an encoding in their own row of spec/opcode_table.json. -/
def Instr.wellFormed : Instr → Bool
  | .andShi _ _ _ _ _ _ _ => true
  | .andShr _ _ _ _ _ _ _ => true
  | .andImm _ _ _ _ _ _ => true
  | .eorShi _ _ _ _ _ _ _ => true
  | .eorShr _ _ _ _ _ _ _ => true
  | .eorImm _ _ _ _ _ _ => true
  | .subShi _ _ _ _ _ _ _ => true
  | .subShr _ _ _ _ _ _ _ => true
  | .subImm _ _ _ _ _ _ => true
  | .rsbShi _ _ _ _ _ _ _ => true
  | .rsbShr _ _ _ _ _ _ _ => true
  | .rsbImm _ _ _ _ _ _ => true
  | .addShi _ _ _ _ _ _ _ => true
  | .addShr _ _ _ _ _ _ _ => true
  | .addImm _ _ _ _ _ _ => true
  | .adcShi _ _ _ _ _ _ _ => true
  | .adcShr _ _ _ _ _ _ _ => true
  | .adcImm _ _ _ _ _ _ => true
  | .sbcShi _ _ _ _ _ _ _ => true
  | .sbcShr _ _ _ _ _ _ _ => true
  | .sbcImm _ _ _ _ _ _ => true
  | .rscShi _ _ _ _ _ _ _ => true
  | .rscShr _ _ _ _ _ _ _ => true
  | .rscImm _ _ _ _ _ _ => true
  | .tstShi _ _ _ _ _ => true
  | .tstShr _ _ _ _ _ => true
  | .tstImm _ _ _ _ => true
  | .teqShi _ _ _ _ _ => true
  | .teqShr _ _ _ _ _ => true
  | .teqImm _ _ _ _ => true
  | .cmpShi _ _ _ _ _ => true
  | .cmpShr _ _ _ _ _ => true
  | .cmpImm _ _ _ _ => true
  | .cmnShi _ _ _ _ _ => true
  | .cmnShr _ _ _ _ _ => true
  | .cmnImm _ _ _ _ => true
  | .orrShi _ _ _ _ _ _ _ => true
  | .orrShr _ _ _ _ _ _ _ => true
  | .orrImm _ _ _ _ _ _ => true
  | .movShi _ _ _ _ _ _ => true
  | .movShr _ _ _ _ _ _ => true
  | .movImm _ _ _ _ _ => true
  | .bicShi _ _ _ _ _ _ _ => true
  | .bicShr _ _ _ _ _ _ _ => true
  | .bicImm _ _ _ _ _ _ => true
  | .mvnShi _ _ _ _ _ _ => true
  | .mvnShr _ _ _ _ _ _ => true
  | .mvnImm _ _ _ _ _ => true
  | .mul _ _ _ _ _ => true
  | .mla _ _ _ _ _ _ => true
  | .umull _ _ _ _ _ _ => true
  | .umlal _ _ _ _ _ _ => true
  | .smull _ _ _ _ _ _ => true
  | .smlal _ _ _ _ _ _ => true
  | .swp _ _ _ _ => true
  | .swpb _ _ _ _ => true
  | .mrs _ _ _ => true
  | .msrReg _ _ _ _ => true
  | .msrImm _ _ _ _ _ => true
  | .bx _ _ => true
  | .strhReg _ _ _ _ _ _ _ => true
  | .strhImm _ _ _ _ _ _ _ _ => true
  | .ldrhReg _ _ _ _ _ _ _ => true
  | .ldrhImm _ _ _ _ _ _ _ _ => true
  | .ldrsbReg _ _ _ _ _ _ _ => true
  | .ldrsbImm _ _ _ _ _ _ _ _ => true
  | .ldrshReg _ _ _ _ _ _ _ => true
  | .ldrshImm _ _ _ _ _ _ _ _ => true
  | .strImmPre _ _ _ _ _ _ => true
  | .strImmPost _ _ _ _ _ => true
  | .strtImm _ _ _ _ _ => true
  | .strRegPre _ _ _ _ _ _ _ _ => true
  | .strRegPost _ _ _ _ _ _ _ => true
  | .strtReg _ _ _ _ _ _ _ => true
  | .ldrImmPre _ _ _ _ _ _ => true
  | .ldrImmPost _ _ _ _ _ => true
  | .ldrtImm _ _ _ _ _ => true
  | .ldrRegPre _ _ _ _ _ _ _ _ => true
  | .ldrRegPost _ _ _ _ _ _ _ => true
  | .ldrtReg _ _ _ _ _ _ _ => true
  | .strbImmPre _ _ _ _ _ _ => true
  | .strbImmPost _ _ _ _ _ => true
  | .strbtImm _ _ _ _ _ => true
  | .strbRegPre _ _ _ _ _ _ _ _ => true
  | .strbRegPost _ _ _ _ _ _ _ => true
  | .strbtReg _ _ _ _ _ _ _ => true
  | .ldrbImmPre _ _ _ _ _ _ => true
  | .ldrbImmPost _ _ _ _ _ => true
  | .ldrbtImm _ _ _ _ _ => true
  | .ldrbRegPre _ _ _ _ _ _ _ _ => true
  | .ldrbRegPost _ _ _ _ _ _ _ => true
  | .ldrbtReg _ _ _ _ _ _ _ => true
  | .stm _ _ _ _ _ _ => true
  | .ldm _ _ _ _ _ _ => true
  | .stmS _ _ _ _ _ _ => true
  | .ldmS _ _ _ _ _ _ => true
  | .b _ _ => true
  | .bl _ _ => true
  | .swi _ _ => true
  | .ldcStc _ _ _ _ _ _ _ _ _ _ => true
  | .cdp _ _ _ _ _ _ _ => true
  | .mrcMcr _ _ _ _ _ _ _ _ => true
  | .undefMul00001 w => inRow 0x0FC000F0#32 0x00400090#32 w
  | .undefMul00011 w => inRow 0x0F8000F0#32 0x01800090#32 w
  | .undefSwpX1 w => inRow 0x0F9000F0#32 0x01100090#32 w
  | .undefSwp10 w => inRow 0x0FB000F0#32 0x01200090#32 w
  | .undefLdrdStrd w => inRow 0x0E1000D0#32 0x000000D0#32 w
  | .undefMiscBx00 w => inRow 0x0FF000F0#32 0x01000010#32 w
  | .undefMiscBx10 w => inRow 0x0FF000F0#32 0x01400010#32 w
  | .undefMiscBx11 w => inRow 0x0FF000F0#32 0x01600010#32 w
  | .undefMisc01xx w => inRow 0x0F9000C0#32 0x01000040#32 w
  | .undefMisc001x w => inRow 0x0F9000E0#32 0x01000020#32 w
  | .undefMisc1xx0 w => inRow 0x0F900090#32 0x01000080#32 w
  | .undefMovStatus w => inRow 0x0FB00000#32 0x03000000#32 w
  | .undefMedia w => inRow 0x0E000010#32 0x06000010#32 w
  | .tLslImm _ _ _ => true
  | .tLsrImm _ _ _ => true
  | .tAsrImm _ _ _ => true
  | .tAddReg _ _ _ => true
  | .tSubReg _ _ _ => true
  | .tAddImm3 _ _ _ => true
  | .tSubImm3 _ _ _ => true
  | .tMovImm8 _ _ => true
  | .tCmpImm8 _ _ => true
  | .tAddImm8 _ _ => true
  | .tSubImm8 _ _ => true
  | .tAnd _ _ => true
  | .tEor _ _ => true
  | .tLslReg _ _ => true
  | .tLsrReg _ _ => true
  | .tAsrReg _ _ => true
  | .tAdc _ _ => true
  | .tSbc _ _ => true
  | .tRorReg _ _ => true
  | .tTst _ _ => true
  | .tNeg _ _ => true
  | .tCmpReg _ _ => true
  | .tCmn _ _ => true
  | .tOrr _ _ => true
  | .tMul _ _ => true
  | .tBic _ _ => true
  | .tMvn _ _ => true
  | .tAddHi _ _ _ _ => true
  | .tCmpHi _ _ _ _ => true
  | .tMovHi _ _ _ _ => true
  | .tBx _ _ _ _ => true
  | .tLdrPc _ _ => true
  | .tStrReg _ _ _ => true
  | .tStrbReg _ _ _ => true
  | .tLdrReg _ _ _ => true
  | .tLdrbReg _ _ _ => true
  | .tStrhReg _ _ _ => true
  | .tLdsbReg _ _ _ => true
  | .tLdrhReg _ _ _ => true
  | .tLdshReg _ _ _ => true
  | .tStrImm _ _ _ => true
  | .tLdrImm _ _ _ => true
  | .tStrbImm _ _ _ => true
  | .tLdrbImm _ _ _ => true
  | .tStrhImm _ _ _ => true
  | .tLdrhImm _ _ _ => true
  | .tStrSp _ _ => true
  | .tLdrSp _ _ => true
  | .tAddPc _ _ => true
  | .tAddSp _ _ => true
  | .tAddSpImm _ _ => true
  | .tPush _ _ => true
  | .tPop _ _ => true
  | .tStmia _ _ => true
  | .tLdmia _ _ => true
  | .tBcond0xxx cond _ => inRow 0b1000#4 0b0000#4 cond.bits
  | .tBcond10xx cond _ => inRow 0b1100#4 0b1000#4 cond.bits
  | .tBcond110x cond _ => inRow 0b1110#4 0b1100#4 cond.bits
  | .tSwi _ => true
  | .tB _ => true
  | .tBlPrefix _ => true
  | .tBlSuffix _ => true
  | .tUndef10110001 w => inRow 0xFF00#16 0xB100#16 w
  | .tUndef1011001x w => inRow 0xFE00#16 0xB200#16 w
  | .tUndef1011011x w => inRow 0xFE00#16 0xB600#16 w
  | .tUndef101110xx w => inRow 0xFC00#16 0xB800#16 w
  | .tUndef1011111x w => inRow 0xFE00#16 0xBE00#16 w
  | .tUndef11011110 w => inRow 0xFF00#16 0xDE00#16 w
  | .tUndef11101 w => inRow 0xF800#16 0xE800#16 w

end Sys2Proof
end

