-- ==== Sys2Proof/Decode.lean ====
section
/-! DEFINITION. Decoding and encoding (spec/30_encoding.md): the ARM decode procedure R207, the THUMB
decode procedure R212, the canonical encoder of R217, and the byte forms of both.  Both decoders are
total: every word and every halfword is exactly one instruction. -/

namespace Sys2Proof

/-! ## Field values -/

/-- The condition named by `i[31:28]` (30_encoding.md R205). -/
def Cond.ofBits (b : BitVec 4) : Cond :=
  match b.toNat with
  | 0 => .eq
  | 1 => .ne
  | 2 => .cs
  | 3 => .cc
  | 4 => .mi
  | 5 => .pl
  | 6 => .vs
  | 7 => .vc
  | 8 => .hi
  | 9 => .ls
  | 10 => .ge
  | 11 => .lt
  | 12 => .gt
  | 13 => .le
  | 14 => .al
  | _ => .nv

/-- The shift type named by `i[6:5]` (30_encoding.md R203). -/
def ShiftKind.ofBits (b : BitVec 2) : ShiftKind :=
  match b.toNat with
  | 0 => .lsl
  | 1 => .lsr
  | 2 => .asr
  | _ => .ror

/-- The bits of a shift type (30_encoding.md R203). -/
def ShiftKind.bits : ShiftKind → BitVec 2
  | .lsl => 0b00#2
  | .lsr => 0b01#2
  | .asr => 0b10#2
  | .ror => 0b11#2

/-- The data-processing operation named by `i[24:21]` (30_encoding.md R204). -/
def DpOp.ofBits (b : BitVec 4) : DpOp :=
  match b.toNat with
  | 0 => .and
  | 1 => .eor
  | 2 => .sub
  | 3 => .rsb
  | 4 => .add
  | 5 => .adc
  | 6 => .sbc
  | 7 => .rsc
  | 8 => .tst
  | 9 => .teq
  | 10 => .cmp
  | 11 => .cmn
  | 12 => .orr
  | 13 => .mov
  | 14 => .bic
  | _ => .mvn

/-- The field of `len` bits of an instruction word whose lowest bit is `lo`. -/
def field (w : BitVec n) (lo len : Nat) : BitVec len := w.extractLsb' lo len

/-- Bit `k` of an instruction word. -/
def bitAt (w : BitVec n) (k : Nat) : Bool := w.getLsbD k

/-! ## The data-processing rows by operation -/

/-- The immediate-shift form of an operation: the row of spec/opcode_table.json it stands for.  TST, TEQ, CMP and CMN
drop `S` and `Rd`, MOV and MVN drop `Rn` (40_arm_dataproc.md R276). -/
def Instr.dpShi (op : DpOp) (cond : Cond) (s : Bool) (rn rd : RegNum) (shiftImm : BitVec 5) (shift : ShiftKind) (rm : RegNum) : Instr :=
  match op with
  | .and => .andShi cond s rn rd shiftImm shift rm
  | .eor => .eorShi cond s rn rd shiftImm shift rm
  | .sub => .subShi cond s rn rd shiftImm shift rm
  | .rsb => .rsbShi cond s rn rd shiftImm shift rm
  | .add => .addShi cond s rn rd shiftImm shift rm
  | .adc => .adcShi cond s rn rd shiftImm shift rm
  | .sbc => .sbcShi cond s rn rd shiftImm shift rm
  | .rsc => .rscShi cond s rn rd shiftImm shift rm
  | .tst => .tstShi cond rn shiftImm shift rm
  | .teq => .teqShi cond rn shiftImm shift rm
  | .cmp => .cmpShi cond rn shiftImm shift rm
  | .cmn => .cmnShi cond rn shiftImm shift rm
  | .orr => .orrShi cond s rn rd shiftImm shift rm
  | .mov => .movShi cond s rd shiftImm shift rm
  | .bic => .bicShi cond s rn rd shiftImm shift rm
  | .mvn => .mvnShi cond s rd shiftImm shift rm

/-- The register-shift form of an operation: the row of spec/opcode_table.json it stands for.  TST, TEQ, CMP and CMN
drop `S` and `Rd`, MOV and MVN drop `Rn` (40_arm_dataproc.md R276). -/
def Instr.dpShr (op : DpOp) (cond : Cond) (s : Bool) (rn rd : RegNum) (rs : RegNum) (shift : ShiftKind) (rm : RegNum) : Instr :=
  match op with
  | .and => .andShr cond s rn rd rs shift rm
  | .eor => .eorShr cond s rn rd rs shift rm
  | .sub => .subShr cond s rn rd rs shift rm
  | .rsb => .rsbShr cond s rn rd rs shift rm
  | .add => .addShr cond s rn rd rs shift rm
  | .adc => .adcShr cond s rn rd rs shift rm
  | .sbc => .sbcShr cond s rn rd rs shift rm
  | .rsc => .rscShr cond s rn rd rs shift rm
  | .tst => .tstShr cond rn rs shift rm
  | .teq => .teqShr cond rn rs shift rm
  | .cmp => .cmpShr cond rn rs shift rm
  | .cmn => .cmnShr cond rn rs shift rm
  | .orr => .orrShr cond s rn rd rs shift rm
  | .mov => .movShr cond s rd rs shift rm
  | .bic => .bicShr cond s rn rd rs shift rm
  | .mvn => .mvnShr cond s rd rs shift rm

/-- The immediate form of an operation: the row of spec/opcode_table.json it stands for.  TST, TEQ, CMP and CMN
drop `S` and `Rd`, MOV and MVN drop `Rn` (40_arm_dataproc.md R276). -/
def Instr.dpImm (op : DpOp) (cond : Cond) (s : Bool) (rn rd : RegNum) (rotate : BitVec 4) (imm8 : BitVec 8) : Instr :=
  match op with
  | .and => .andImm cond s rn rd rotate imm8
  | .eor => .eorImm cond s rn rd rotate imm8
  | .sub => .subImm cond s rn rd rotate imm8
  | .rsb => .rsbImm cond s rn rd rotate imm8
  | .add => .addImm cond s rn rd rotate imm8
  | .adc => .adcImm cond s rn rd rotate imm8
  | .sbc => .sbcImm cond s rn rd rotate imm8
  | .rsc => .rscImm cond s rn rd rotate imm8
  | .tst => .tstImm cond rn rotate imm8
  | .teq => .teqImm cond rn rotate imm8
  | .cmp => .cmpImm cond rn rotate imm8
  | .cmn => .cmnImm cond rn rotate imm8
  | .orr => .orrImm cond s rn rd rotate imm8
  | .mov => .movImm cond s rd rotate imm8
  | .bic => .bicImm cond s rn rd rotate imm8
  | .mvn => .mvnImm cond s rd rotate imm8

/-! ## ARM decode (30_encoding.md R207) -/

/-- The multiply and swap space, `i[27:25] = 000` and `i[7:4] = 1001`. -/
def decodeArmMulSwp (w : Word) : Instr :=
  let cond := Cond.ofBits (field w 28 4)
  let s := bitAt w 20
  let rn := field w 16 4
  let rd := field w 12 4
  let rs := field w 8 4
  let rm := field w 0 4
  if bitAt w 24 then
    if bitAt w 23 then .undefMul00011 w
    else if bitAt w 20 then .undefSwpX1 w
    else if bitAt w 21 then .undefSwp10 w
    else if bitAt w 22 then .swpb cond rn rd rm
    else .swp cond rn rd rm
  else if bitAt w 23 then
    match bitAt w 22, bitAt w 21 with
    | false, false => .umull cond s rn rd rs rm
    | false, true => .umlal cond s rn rd rs rm
    | true, false => .smull cond s rn rd rs rm
    | true, true => .smlal cond s rn rd rs rm
  else if bitAt w 22 then .undefMul00001 w
  else if bitAt w 21 then .mla cond s rn rd rs rm
  else .mul cond s rn rs rm

/-- The halfword and signed transfers, `i[27:25] = 000`, `i[7] = i[4] = 1`, `i[6:5] ≠ 00`. -/
def decodeArmHalf (w : Word) : Instr :=
  let cond := Cond.ofBits (field w 28 4)
  let p := bitAt w 24
  let u := bitAt w 23
  let wb := bitAt w 21
  let rn := field w 16 4
  let rd := field w 12 4
  let rm := field w 0 4
  let immH := field w 8 4
  let immL := field w 0 4
  if bitAt w 20 then
    match bitAt w 6, bitAt w 5 with
    | true, true => if bitAt w 22 then .ldrshImm cond p u wb rn rd immH immL else .ldrshReg cond p u wb rn rd rm
    | true, false => if bitAt w 22 then .ldrsbImm cond p u wb rn rd immH immL else .ldrsbReg cond p u wb rn rd rm
    | false, _ => if bitAt w 22 then .ldrhImm cond p u wb rn rd immH immL else .ldrhReg cond p u wb rn rd rm
  else if bitAt w 6 then .undefLdrdStrd w
  else if bitAt w 22 then .strhImm cond p u wb rn rd immH immL
  else .strhReg cond p u wb rn rd rm

/-- The test opcodes with `S = 0` of the register forms, `i[24:23] = 10`, `i[20] = 0`: PSR transfer, BX
or undefined. -/
def decodeArmMisc (w : Word) : Instr :=
  let cond := Cond.ofBits (field w 28 4)
  if bitAt w 7 then .undefMisc1xx0 w
  else if bitAt w 6 then .undefMisc01xx w
  else if bitAt w 5 then .undefMisc001x w
  else if bitAt w 4 then
    match bitAt w 22, bitAt w 21 with
    | false, true => .bx cond (field w 0 4)
    | false, false => .undefMiscBx00 w
    | true, false => .undefMiscBx10 w
    | true, true => .undefMiscBx11 w
  else if bitAt w 21 then .msrReg cond (bitAt w 22) (field w 16 4) (field w 0 4)
  else .mrs cond (bitAt w 22) (field w 12 4)

/-- Data processing in the two register forms. -/
def decodeArmDpReg (w : Word) : Instr :=
  let cond := Cond.ofBits (field w 28 4)
  let op := DpOp.ofBits (field w 21 4)
  let shift := ShiftKind.ofBits (field w 5 2)
  if bitAt w 4 then
    .dpShr op cond (bitAt w 20) (field w 16 4) (field w 12 4) (field w 8 4) shift (field w 0 4)
  else
    .dpShi op cond (bitAt w 20) (field w 16 4) (field w 12 4) (field w 7 5) shift (field w 0 4)

/-- The space `i[27:25] = 001`: data processing immediate, MSR immediate, or undefined. -/
def decodeArmImm (w : Word) : Instr :=
  let cond := Cond.ofBits (field w 28 4)
  if bitAt w 24 && !bitAt w 23 && !bitAt w 20 then
    if bitAt w 21 then .msrImm cond (bitAt w 22) (field w 16 4) (field w 8 4) (field w 0 8)
    else .undefMovStatus w
  else
    .dpImm (DpOp.ofBits (field w 21 4)) cond (bitAt w 20) (field w 16 4) (field w 12 4) (field w 8 4) (field w 0 8)

/-- The single transfers with an immediate offset, `i[27:25] = 010`. -/
def decodeArmSingleImm (w : Word) : Instr :=
  let cond := Cond.ofBits (field w 28 4)
  let u := bitAt w 23
  let wb := bitAt w 21
  let rn := field w 16 4
  let rd := field w 12 4
  let imm := field w 0 12
  match bitAt w 20, bitAt w 22, bitAt w 24 with
  | false, false, true => .strImmPre cond u wb rn rd imm
  | false, false, false => if wb then .strtImm cond u rn rd imm else .strImmPost cond u rn rd imm
  | true, false, true => .ldrImmPre cond u wb rn rd imm
  | true, false, false => if wb then .ldrtImm cond u rn rd imm else .ldrImmPost cond u rn rd imm
  | false, true, true => .strbImmPre cond u wb rn rd imm
  | false, true, false => if wb then .strbtImm cond u rn rd imm else .strbImmPost cond u rn rd imm
  | true, true, true => .ldrbImmPre cond u wb rn rd imm
  | true, true, false => if wb then .ldrbtImm cond u rn rd imm else .ldrbImmPost cond u rn rd imm

/-- The single transfers with a register offset, `i[27:25] = 011` with `i[4] = 0`. -/
def decodeArmSingleReg (w : Word) : Instr :=
  let cond := Cond.ofBits (field w 28 4)
  let u := bitAt w 23
  let wb := bitAt w 21
  let rn := field w 16 4
  let rd := field w 12 4
  let sh := field w 7 5
  let ty := ShiftKind.ofBits (field w 5 2)
  let rm := field w 0 4
  match bitAt w 20, bitAt w 22, bitAt w 24 with
  | false, false, true => .strRegPre cond u wb rn rd sh ty rm
  | false, false, false => if wb then .strtReg cond u rn rd sh ty rm else .strRegPost cond u rn rd sh ty rm
  | true, false, true => .ldrRegPre cond u wb rn rd sh ty rm
  | true, false, false => if wb then .ldrtReg cond u rn rd sh ty rm else .ldrRegPost cond u rn rd sh ty rm
  | false, true, true => .strbRegPre cond u wb rn rd sh ty rm
  | false, true, false => if wb then .strbtReg cond u rn rd sh ty rm else .strbRegPost cond u rn rd sh ty rm
  | true, true, true => .ldrbRegPre cond u wb rn rd sh ty rm
  | true, true, false => if wb then .ldrbtReg cond u rn rd sh ty rm else .ldrbRegPost cond u rn rd sh ty rm

/-- The block transfers, `i[27:25] = 100`. -/
def decodeArmBlock (w : Word) : Instr :=
  let cond := Cond.ofBits (field w 28 4)
  let p := bitAt w 24
  let u := bitAt w 23
  let wb := bitAt w 21
  let rn := field w 16 4
  let list := field w 0 16
  match bitAt w 22, bitAt w 20 with
  | false, false => .stm cond p u wb rn list
  | false, true => .ldm cond p u wb rn list
  | true, false => .stmS cond p u wb rn list
  | true, true => .ldmS cond p u wb rn list

/-- `DecodeARM` of 30_encoding.md R207, after the condition has passed; a failing condition is the
instruction's own matter (R206). -/
def decodeArm (w : Word) : Instr :=
  let cond := Cond.ofBits (field w 28 4)
  match bitAt w 27, bitAt w 26, bitAt w 25 with
  | false, false, false =>
      if bitAt w 7 && bitAt w 4 then
        if bitAt w 6 || bitAt w 5 then decodeArmHalf w else decodeArmMulSwp w
      else if bitAt w 24 && !bitAt w 23 && !bitAt w 20 then decodeArmMisc w
      else decodeArmDpReg w
  | false, false, true => decodeArmImm w
  | false, true, false => decodeArmSingleImm w
  | false, true, true => if bitAt w 4 then .undefMedia w else decodeArmSingleReg w
  | true, false, false => decodeArmBlock w
  | true, false, true =>
      if bitAt w 24 then .bl cond (field w 0 24) else .b cond (field w 0 24)
  | true, true, false =>
      .ldcStc cond (bitAt w 24) (bitAt w 23) (bitAt w 22) (bitAt w 21) (bitAt w 20) (field w 16 4) (field w 12 4)
        (field w 8 4) (field w 0 8)
  | true, true, true =>
      if bitAt w 24 then .swi cond (field w 0 24)
      else if bitAt w 4 then
        .mrcMcr cond (field w 21 3) (bitAt w 20) (field w 16 4) (field w 12 4) (field w 8 4) (field w 5 3) (field w 0 4)
      else
        .cdp cond (field w 20 4) (field w 16 4) (field w 12 4) (field w 8 4) (field w 5 3) (field w 0 4)

/-! ## THUMB decode (30_encoding.md R212) -/

/-- Formats 1 and 2, `i[15:13] = 000`. -/
def decodeThumbShiftAdd (h : Half) : Instr :=
  match bitAt h 12, bitAt h 11 with
  | false, false => .tLslImm (field h 6 5) (field h 3 3) (field h 0 3)
  | false, true => .tLsrImm (field h 6 5) (field h 3 3) (field h 0 3)
  | true, false => .tAsrImm (field h 6 5) (field h 3 3) (field h 0 3)
  | true, true =>
      match bitAt h 10, bitAt h 9 with
      | false, false => .tAddReg (field h 6 3) (field h 3 3) (field h 0 3)
      | false, true => .tSubReg (field h 6 3) (field h 3 3) (field h 0 3)
      | true, false => .tAddImm3 (field h 6 3) (field h 3 3) (field h 0 3)
      | true, true => .tSubImm3 (field h 6 3) (field h 3 3) (field h 0 3)

/-- Format 3, `i[15:13] = 001`. -/
def decodeThumbImm8 (h : Half) : Instr :=
  match bitAt h 12, bitAt h 11 with
  | false, false => .tMovImm8 (field h 8 3) (field h 0 8)
  | false, true => .tCmpImm8 (field h 8 3) (field h 0 8)
  | true, false => .tAddImm8 (field h 8 3) (field h 0 8)
  | true, true => .tSubImm8 (field h 8 3) (field h 0 8)

/-- Format 4, `i[15:10] = 010000`, with the operations of 30_encoding.md R211. -/
def decodeThumbAlu (h : Half) : Instr :=
  let rs := field h 3 3
  let rd := field h 0 3
  match bitAt h 9, bitAt h 8, bitAt h 7, bitAt h 6 with
  | false, false, false, false => .tAnd rs rd
  | false, false, false, true => .tEor rs rd
  | false, false, true, false => .tLslReg rs rd
  | false, false, true, true => .tLsrReg rs rd
  | false, true, false, false => .tAsrReg rs rd
  | false, true, false, true => .tAdc rs rd
  | false, true, true, false => .tSbc rs rd
  | false, true, true, true => .tRorReg rs rd
  | true, false, false, false => .tTst rs rd
  | true, false, false, true => .tNeg rs rd
  | true, false, true, false => .tCmpReg rs rd
  | true, false, true, true => .tCmn rs rd
  | true, true, false, false => .tOrr rs rd
  | true, true, false, true => .tMul rs rd
  | true, true, true, false => .tBic rs rd
  | true, true, true, true => .tMvn rs rd

/-- Format 5, `i[15:10] = 010001`. -/
def decodeThumbHi (h : Half) : Instr :=
  let h1 := bitAt h 7
  let h2 := bitAt h 6
  let rs := field h 3 3
  let rd := field h 0 3
  match bitAt h 9, bitAt h 8 with
  | false, false => .tAddHi h1 h2 rs rd
  | false, true => .tCmpHi h1 h2 rs rd
  | true, false => .tMovHi h1 h2 rs rd
  | true, true => .tBx h1 h2 rs rd

/-- Formats 7 and 8, `i[15:12] = 0101`. -/
def decodeThumbRegOffset (h : Half) : Instr :=
  let ro := field h 6 3
  let rb := field h 3 3
  let rd := field h 0 3
  match bitAt h 11, bitAt h 10, bitAt h 9 with
  | false, false, false => .tStrReg ro rb rd
  | false, true, false => .tStrbReg ro rb rd
  | true, false, false => .tLdrReg ro rb rd
  | true, true, false => .tLdrbReg ro rb rd
  | false, false, true => .tStrhReg ro rb rd
  | false, true, true => .tLdsbReg ro rb rd
  | true, false, true => .tLdrhReg ro rb rd
  | true, true, true => .tLdshReg ro rb rd

/-- Format 9, `i[15:13] = 011`. -/
def decodeThumbImmOffset (h : Half) : Instr :=
  match bitAt h 12, bitAt h 11 with
  | false, false => .tStrImm (field h 6 5) (field h 3 3) (field h 0 3)
  | false, true => .tLdrImm (field h 6 5) (field h 3 3) (field h 0 3)
  | true, false => .tStrbImm (field h 6 5) (field h 3 3) (field h 0 3)
  | true, true => .tLdrbImm (field h 6 5) (field h 3 3) (field h 0 3)

/-- Formats 13 and 14 and the undefined rest of `i[15:12] = 1011`. -/
def decodeThumbMisc (h : Half) : Instr :=
  match bitAt h 11, bitAt h 10, bitAt h 9, bitAt h 8 with
  | false, false, false, false => .tAddSpImm (bitAt h 7) (field h 0 7)
  | false, false, false, true => .tUndef10110001 h
  | false, false, true, _ => .tUndef1011001x h
  | false, true, false, r => .tPush r (field h 0 8)
  | false, true, true, _ => .tUndef1011011x h
  | true, false, _, _ => .tUndef101110xx h
  | true, true, false, r => .tPop r (field h 0 8)
  | true, true, true, _ => .tUndef1011111x h

/-- Formats 16 and 17 and the undefined condition 1110, `i[15:12] = 1101`. -/
def decodeThumbBranch (h : Half) : Instr :=
  let cond := Cond.ofBits (field h 8 4)
  match bitAt h 11, bitAt h 10, bitAt h 9, bitAt h 8 with
  | false, _, _, _ => .tBcond0xxx cond (field h 0 8)
  | true, false, _, _ => .tBcond10xx cond (field h 0 8)
  | true, true, false, _ => .tBcond110x cond (field h 0 8)
  | true, true, true, false => .tUndef11011110 h
  | true, true, true, true => .tSwi (field h 0 8)

/-- `DecodeTHUMB` of 30_encoding.md R212. -/
def decodeThumb (h : Half) : Instr :=
  match bitAt h 15, bitAt h 14, bitAt h 13 with
  | false, false, false => decodeThumbShiftAdd h
  | false, false, true => decodeThumbImm8 h
  | false, true, false =>
      if bitAt h 12 then decodeThumbRegOffset h
      else if bitAt h 11 then .tLdrPc (field h 8 3) (field h 0 8)
      else if bitAt h 10 then decodeThumbHi h
      else decodeThumbAlu h
  | false, true, true => decodeThumbImmOffset h
  | true, false, false =>
      match bitAt h 12, bitAt h 11 with
      | false, false => .tStrhImm (field h 6 5) (field h 3 3) (field h 0 3)
      | false, true => .tLdrhImm (field h 6 5) (field h 3 3) (field h 0 3)
      | true, false => .tStrSp (field h 8 3) (field h 0 8)
      | true, true => .tLdrSp (field h 8 3) (field h 0 8)
  | true, false, true =>
      if bitAt h 12 then decodeThumbMisc h
      else if bitAt h 11 then .tAddSp (field h 8 3) (field h 0 8)
      else .tAddPc (field h 8 3) (field h 0 8)
  | true, true, false =>
      if bitAt h 12 then decodeThumbBranch h
      else if bitAt h 11 then .tLdmia (field h 8 3) (field h 0 8)
      else .tStmia (field h 8 3) (field h 0 8)
  | true, true, true =>
      match bitAt h 12, bitAt h 11 with
      | false, false => .tB (field h 0 11)
      | false, true => .tUndef11101 h
      | true, false => .tBlPrefix (field h 0 11)
      | true, true => .tBlSuffix (field h 0 11)

/-! ## Encoding (30_encoding.md R202, R210, R217) -/

/-- An instruction's code: an ARM word or a THUMB halfword (30_encoding.md R200). -/
inductive Code where
  | arm (w : Word)
  | thumb (h : Half)
  deriving DecidableEq, Repr

/-- The canonical encoding of 30_encoding.md R217: should-be-zero fields 0, should-be-one fields 1. -/
def encode : Instr → Code
  | .andShi cond s rn rd shiftImm shift rm => .arm (cond.bits ++ 0b0000000#7 ++ BitVec.ofBool s ++ rn ++ rd ++ shiftImm ++ shift.bits ++ 0b0#1 ++ rm)
  | .andShr cond s rn rd rs shift rm => .arm (cond.bits ++ 0b0000000#7 ++ BitVec.ofBool s ++ rn ++ rd ++ rs ++ 0b0#1 ++ shift.bits ++ 0b1#1 ++ rm)
  | .andImm cond s rn rd rotate imm8 => .arm (cond.bits ++ 0b0010000#7 ++ BitVec.ofBool s ++ rn ++ rd ++ rotate ++ imm8)
  | .eorShi cond s rn rd shiftImm shift rm => .arm (cond.bits ++ 0b0000001#7 ++ BitVec.ofBool s ++ rn ++ rd ++ shiftImm ++ shift.bits ++ 0b0#1 ++ rm)
  | .eorShr cond s rn rd rs shift rm => .arm (cond.bits ++ 0b0000001#7 ++ BitVec.ofBool s ++ rn ++ rd ++ rs ++ 0b0#1 ++ shift.bits ++ 0b1#1 ++ rm)
  | .eorImm cond s rn rd rotate imm8 => .arm (cond.bits ++ 0b0010001#7 ++ BitVec.ofBool s ++ rn ++ rd ++ rotate ++ imm8)
  | .subShi cond s rn rd shiftImm shift rm => .arm (cond.bits ++ 0b0000010#7 ++ BitVec.ofBool s ++ rn ++ rd ++ shiftImm ++ shift.bits ++ 0b0#1 ++ rm)
  | .subShr cond s rn rd rs shift rm => .arm (cond.bits ++ 0b0000010#7 ++ BitVec.ofBool s ++ rn ++ rd ++ rs ++ 0b0#1 ++ shift.bits ++ 0b1#1 ++ rm)
  | .subImm cond s rn rd rotate imm8 => .arm (cond.bits ++ 0b0010010#7 ++ BitVec.ofBool s ++ rn ++ rd ++ rotate ++ imm8)
  | .rsbShi cond s rn rd shiftImm shift rm => .arm (cond.bits ++ 0b0000011#7 ++ BitVec.ofBool s ++ rn ++ rd ++ shiftImm ++ shift.bits ++ 0b0#1 ++ rm)
  | .rsbShr cond s rn rd rs shift rm => .arm (cond.bits ++ 0b0000011#7 ++ BitVec.ofBool s ++ rn ++ rd ++ rs ++ 0b0#1 ++ shift.bits ++ 0b1#1 ++ rm)
  | .rsbImm cond s rn rd rotate imm8 => .arm (cond.bits ++ 0b0010011#7 ++ BitVec.ofBool s ++ rn ++ rd ++ rotate ++ imm8)
  | .addShi cond s rn rd shiftImm shift rm => .arm (cond.bits ++ 0b0000100#7 ++ BitVec.ofBool s ++ rn ++ rd ++ shiftImm ++ shift.bits ++ 0b0#1 ++ rm)
  | .addShr cond s rn rd rs shift rm => .arm (cond.bits ++ 0b0000100#7 ++ BitVec.ofBool s ++ rn ++ rd ++ rs ++ 0b0#1 ++ shift.bits ++ 0b1#1 ++ rm)
  | .addImm cond s rn rd rotate imm8 => .arm (cond.bits ++ 0b0010100#7 ++ BitVec.ofBool s ++ rn ++ rd ++ rotate ++ imm8)
  | .adcShi cond s rn rd shiftImm shift rm => .arm (cond.bits ++ 0b0000101#7 ++ BitVec.ofBool s ++ rn ++ rd ++ shiftImm ++ shift.bits ++ 0b0#1 ++ rm)
  | .adcShr cond s rn rd rs shift rm => .arm (cond.bits ++ 0b0000101#7 ++ BitVec.ofBool s ++ rn ++ rd ++ rs ++ 0b0#1 ++ shift.bits ++ 0b1#1 ++ rm)
  | .adcImm cond s rn rd rotate imm8 => .arm (cond.bits ++ 0b0010101#7 ++ BitVec.ofBool s ++ rn ++ rd ++ rotate ++ imm8)
  | .sbcShi cond s rn rd shiftImm shift rm => .arm (cond.bits ++ 0b0000110#7 ++ BitVec.ofBool s ++ rn ++ rd ++ shiftImm ++ shift.bits ++ 0b0#1 ++ rm)
  | .sbcShr cond s rn rd rs shift rm => .arm (cond.bits ++ 0b0000110#7 ++ BitVec.ofBool s ++ rn ++ rd ++ rs ++ 0b0#1 ++ shift.bits ++ 0b1#1 ++ rm)
  | .sbcImm cond s rn rd rotate imm8 => .arm (cond.bits ++ 0b0010110#7 ++ BitVec.ofBool s ++ rn ++ rd ++ rotate ++ imm8)
  | .rscShi cond s rn rd shiftImm shift rm => .arm (cond.bits ++ 0b0000111#7 ++ BitVec.ofBool s ++ rn ++ rd ++ shiftImm ++ shift.bits ++ 0b0#1 ++ rm)
  | .rscShr cond s rn rd rs shift rm => .arm (cond.bits ++ 0b0000111#7 ++ BitVec.ofBool s ++ rn ++ rd ++ rs ++ 0b0#1 ++ shift.bits ++ 0b1#1 ++ rm)
  | .rscImm cond s rn rd rotate imm8 => .arm (cond.bits ++ 0b0010111#7 ++ BitVec.ofBool s ++ rn ++ rd ++ rotate ++ imm8)
  | .tstShi cond rn shiftImm shift rm => .arm (cond.bits ++ 0b00010001#8 ++ rn ++ 0b0000#4 ++ shiftImm ++ shift.bits ++ 0b0#1 ++ rm)
  | .tstShr cond rn rs shift rm => .arm (cond.bits ++ 0b00010001#8 ++ rn ++ 0b0000#4 ++ rs ++ 0b0#1 ++ shift.bits ++ 0b1#1 ++ rm)
  | .tstImm cond rn rotate imm8 => .arm (cond.bits ++ 0b00110001#8 ++ rn ++ 0b0000#4 ++ rotate ++ imm8)
  | .teqShi cond rn shiftImm shift rm => .arm (cond.bits ++ 0b00010011#8 ++ rn ++ 0b0000#4 ++ shiftImm ++ shift.bits ++ 0b0#1 ++ rm)
  | .teqShr cond rn rs shift rm => .arm (cond.bits ++ 0b00010011#8 ++ rn ++ 0b0000#4 ++ rs ++ 0b0#1 ++ shift.bits ++ 0b1#1 ++ rm)
  | .teqImm cond rn rotate imm8 => .arm (cond.bits ++ 0b00110011#8 ++ rn ++ 0b0000#4 ++ rotate ++ imm8)
  | .cmpShi cond rn shiftImm shift rm => .arm (cond.bits ++ 0b00010101#8 ++ rn ++ 0b0000#4 ++ shiftImm ++ shift.bits ++ 0b0#1 ++ rm)
  | .cmpShr cond rn rs shift rm => .arm (cond.bits ++ 0b00010101#8 ++ rn ++ 0b0000#4 ++ rs ++ 0b0#1 ++ shift.bits ++ 0b1#1 ++ rm)
  | .cmpImm cond rn rotate imm8 => .arm (cond.bits ++ 0b00110101#8 ++ rn ++ 0b0000#4 ++ rotate ++ imm8)
  | .cmnShi cond rn shiftImm shift rm => .arm (cond.bits ++ 0b00010111#8 ++ rn ++ 0b0000#4 ++ shiftImm ++ shift.bits ++ 0b0#1 ++ rm)
  | .cmnShr cond rn rs shift rm => .arm (cond.bits ++ 0b00010111#8 ++ rn ++ 0b0000#4 ++ rs ++ 0b0#1 ++ shift.bits ++ 0b1#1 ++ rm)
  | .cmnImm cond rn rotate imm8 => .arm (cond.bits ++ 0b00110111#8 ++ rn ++ 0b0000#4 ++ rotate ++ imm8)
  | .orrShi cond s rn rd shiftImm shift rm => .arm (cond.bits ++ 0b0001100#7 ++ BitVec.ofBool s ++ rn ++ rd ++ shiftImm ++ shift.bits ++ 0b0#1 ++ rm)
  | .orrShr cond s rn rd rs shift rm => .arm (cond.bits ++ 0b0001100#7 ++ BitVec.ofBool s ++ rn ++ rd ++ rs ++ 0b0#1 ++ shift.bits ++ 0b1#1 ++ rm)
  | .orrImm cond s rn rd rotate imm8 => .arm (cond.bits ++ 0b0011100#7 ++ BitVec.ofBool s ++ rn ++ rd ++ rotate ++ imm8)
  | .movShi cond s rd shiftImm shift rm => .arm (cond.bits ++ 0b0001101#7 ++ BitVec.ofBool s ++ 0b0000#4 ++ rd ++ shiftImm ++ shift.bits ++ 0b0#1 ++ rm)
  | .movShr cond s rd rs shift rm => .arm (cond.bits ++ 0b0001101#7 ++ BitVec.ofBool s ++ 0b0000#4 ++ rd ++ rs ++ 0b0#1 ++ shift.bits ++ 0b1#1 ++ rm)
  | .movImm cond s rd rotate imm8 => .arm (cond.bits ++ 0b0011101#7 ++ BitVec.ofBool s ++ 0b0000#4 ++ rd ++ rotate ++ imm8)
  | .bicShi cond s rn rd shiftImm shift rm => .arm (cond.bits ++ 0b0001110#7 ++ BitVec.ofBool s ++ rn ++ rd ++ shiftImm ++ shift.bits ++ 0b0#1 ++ rm)
  | .bicShr cond s rn rd rs shift rm => .arm (cond.bits ++ 0b0001110#7 ++ BitVec.ofBool s ++ rn ++ rd ++ rs ++ 0b0#1 ++ shift.bits ++ 0b1#1 ++ rm)
  | .bicImm cond s rn rd rotate imm8 => .arm (cond.bits ++ 0b0011110#7 ++ BitVec.ofBool s ++ rn ++ rd ++ rotate ++ imm8)
  | .mvnShi cond s rd shiftImm shift rm => .arm (cond.bits ++ 0b0001111#7 ++ BitVec.ofBool s ++ 0b0000#4 ++ rd ++ shiftImm ++ shift.bits ++ 0b0#1 ++ rm)
  | .mvnShr cond s rd rs shift rm => .arm (cond.bits ++ 0b0001111#7 ++ BitVec.ofBool s ++ 0b0000#4 ++ rd ++ rs ++ 0b0#1 ++ shift.bits ++ 0b1#1 ++ rm)
  | .mvnImm cond s rd rotate imm8 => .arm (cond.bits ++ 0b0011111#7 ++ BitVec.ofBool s ++ 0b0000#4 ++ rd ++ rotate ++ imm8)
  | .mul cond s rd rs rm => .arm (cond.bits ++ 0b0000000#7 ++ BitVec.ofBool s ++ rd ++ 0b0000#4 ++ rs ++ 0b1001#4 ++ rm)
  | .mla cond s rd rn rs rm => .arm (cond.bits ++ 0b0000001#7 ++ BitVec.ofBool s ++ rd ++ rn ++ rs ++ 0b1001#4 ++ rm)
  | .umull cond s rdHi rdLo rs rm => .arm (cond.bits ++ 0b0000100#7 ++ BitVec.ofBool s ++ rdHi ++ rdLo ++ rs ++ 0b1001#4 ++ rm)
  | .umlal cond s rdHi rdLo rs rm => .arm (cond.bits ++ 0b0000101#7 ++ BitVec.ofBool s ++ rdHi ++ rdLo ++ rs ++ 0b1001#4 ++ rm)
  | .smull cond s rdHi rdLo rs rm => .arm (cond.bits ++ 0b0000110#7 ++ BitVec.ofBool s ++ rdHi ++ rdLo ++ rs ++ 0b1001#4 ++ rm)
  | .smlal cond s rdHi rdLo rs rm => .arm (cond.bits ++ 0b0000111#7 ++ BitVec.ofBool s ++ rdHi ++ rdLo ++ rs ++ 0b1001#4 ++ rm)
  | .swp cond rn rd rm => .arm (cond.bits ++ 0b00010000#8 ++ rn ++ rd ++ 0b00001001#8 ++ rm)
  | .swpb cond rn rd rm => .arm (cond.bits ++ 0b00010100#8 ++ rn ++ rd ++ 0b00001001#8 ++ rm)
  | .mrs cond r rd => .arm (cond.bits ++ 0b00010#5 ++ BitVec.ofBool r ++ 0b001111#6 ++ rd ++ 0b000000000000#12)
  | .msrReg cond r mask rm => .arm (cond.bits ++ 0b00010#5 ++ BitVec.ofBool r ++ 0b10#2 ++ mask ++ 0b111100000000#12 ++ rm)
  | .msrImm cond r mask rotate imm8 => .arm (cond.bits ++ 0b00110#5 ++ BitVec.ofBool r ++ 0b10#2 ++ mask ++ 0b1111#4 ++ rotate ++ imm8)
  | .bx cond rm => .arm (cond.bits ++ 0b000100101111111111110001#24 ++ rm)
  | .strhReg cond p u w rn rd rm => .arm (cond.bits ++ 0b000#3 ++ BitVec.ofBool p ++ BitVec.ofBool u ++ 0b0#1 ++ BitVec.ofBool w ++ 0b0#1 ++ rn ++ rd ++ 0b00001011#8 ++ rm)
  | .strhImm cond p u w rn rd immH immL => .arm (cond.bits ++ 0b000#3 ++ BitVec.ofBool p ++ BitVec.ofBool u ++ 0b1#1 ++ BitVec.ofBool w ++ 0b0#1 ++ rn ++ rd ++ immH ++ 0b1011#4 ++ immL)
  | .ldrhReg cond p u w rn rd rm => .arm (cond.bits ++ 0b000#3 ++ BitVec.ofBool p ++ BitVec.ofBool u ++ 0b0#1 ++ BitVec.ofBool w ++ 0b1#1 ++ rn ++ rd ++ 0b00001011#8 ++ rm)
  | .ldrhImm cond p u w rn rd immH immL => .arm (cond.bits ++ 0b000#3 ++ BitVec.ofBool p ++ BitVec.ofBool u ++ 0b1#1 ++ BitVec.ofBool w ++ 0b1#1 ++ rn ++ rd ++ immH ++ 0b1011#4 ++ immL)
  | .ldrsbReg cond p u w rn rd rm => .arm (cond.bits ++ 0b000#3 ++ BitVec.ofBool p ++ BitVec.ofBool u ++ 0b0#1 ++ BitVec.ofBool w ++ 0b1#1 ++ rn ++ rd ++ 0b00001101#8 ++ rm)
  | .ldrsbImm cond p u w rn rd immH immL => .arm (cond.bits ++ 0b000#3 ++ BitVec.ofBool p ++ BitVec.ofBool u ++ 0b1#1 ++ BitVec.ofBool w ++ 0b1#1 ++ rn ++ rd ++ immH ++ 0b1101#4 ++ immL)
  | .ldrshReg cond p u w rn rd rm => .arm (cond.bits ++ 0b000#3 ++ BitVec.ofBool p ++ BitVec.ofBool u ++ 0b0#1 ++ BitVec.ofBool w ++ 0b1#1 ++ rn ++ rd ++ 0b00001111#8 ++ rm)
  | .ldrshImm cond p u w rn rd immH immL => .arm (cond.bits ++ 0b000#3 ++ BitVec.ofBool p ++ BitVec.ofBool u ++ 0b1#1 ++ BitVec.ofBool w ++ 0b1#1 ++ rn ++ rd ++ immH ++ 0b1111#4 ++ immL)
  | .strImmPre cond u w rn rd imm12 => .arm (cond.bits ++ 0b0101#4 ++ BitVec.ofBool u ++ 0b0#1 ++ BitVec.ofBool w ++ 0b0#1 ++ rn ++ rd ++ imm12)
  | .strImmPost cond u rn rd imm12 => .arm (cond.bits ++ 0b0100#4 ++ BitVec.ofBool u ++ 0b000#3 ++ rn ++ rd ++ imm12)
  | .strtImm cond u rn rd imm12 => .arm (cond.bits ++ 0b0100#4 ++ BitVec.ofBool u ++ 0b010#3 ++ rn ++ rd ++ imm12)
  | .strRegPre cond u w rn rd shiftImm shift rm => .arm (cond.bits ++ 0b0111#4 ++ BitVec.ofBool u ++ 0b0#1 ++ BitVec.ofBool w ++ 0b0#1 ++ rn ++ rd ++ shiftImm ++ shift.bits ++ 0b0#1 ++ rm)
  | .strRegPost cond u rn rd shiftImm shift rm => .arm (cond.bits ++ 0b0110#4 ++ BitVec.ofBool u ++ 0b000#3 ++ rn ++ rd ++ shiftImm ++ shift.bits ++ 0b0#1 ++ rm)
  | .strtReg cond u rn rd shiftImm shift rm => .arm (cond.bits ++ 0b0110#4 ++ BitVec.ofBool u ++ 0b010#3 ++ rn ++ rd ++ shiftImm ++ shift.bits ++ 0b0#1 ++ rm)
  | .ldrImmPre cond u w rn rd imm12 => .arm (cond.bits ++ 0b0101#4 ++ BitVec.ofBool u ++ 0b0#1 ++ BitVec.ofBool w ++ 0b1#1 ++ rn ++ rd ++ imm12)
  | .ldrImmPost cond u rn rd imm12 => .arm (cond.bits ++ 0b0100#4 ++ BitVec.ofBool u ++ 0b001#3 ++ rn ++ rd ++ imm12)
  | .ldrtImm cond u rn rd imm12 => .arm (cond.bits ++ 0b0100#4 ++ BitVec.ofBool u ++ 0b011#3 ++ rn ++ rd ++ imm12)
  | .ldrRegPre cond u w rn rd shiftImm shift rm => .arm (cond.bits ++ 0b0111#4 ++ BitVec.ofBool u ++ 0b0#1 ++ BitVec.ofBool w ++ 0b1#1 ++ rn ++ rd ++ shiftImm ++ shift.bits ++ 0b0#1 ++ rm)
  | .ldrRegPost cond u rn rd shiftImm shift rm => .arm (cond.bits ++ 0b0110#4 ++ BitVec.ofBool u ++ 0b001#3 ++ rn ++ rd ++ shiftImm ++ shift.bits ++ 0b0#1 ++ rm)
  | .ldrtReg cond u rn rd shiftImm shift rm => .arm (cond.bits ++ 0b0110#4 ++ BitVec.ofBool u ++ 0b011#3 ++ rn ++ rd ++ shiftImm ++ shift.bits ++ 0b0#1 ++ rm)
  | .strbImmPre cond u w rn rd imm12 => .arm (cond.bits ++ 0b0101#4 ++ BitVec.ofBool u ++ 0b1#1 ++ BitVec.ofBool w ++ 0b0#1 ++ rn ++ rd ++ imm12)
  | .strbImmPost cond u rn rd imm12 => .arm (cond.bits ++ 0b0100#4 ++ BitVec.ofBool u ++ 0b100#3 ++ rn ++ rd ++ imm12)
  | .strbtImm cond u rn rd imm12 => .arm (cond.bits ++ 0b0100#4 ++ BitVec.ofBool u ++ 0b110#3 ++ rn ++ rd ++ imm12)
  | .strbRegPre cond u w rn rd shiftImm shift rm => .arm (cond.bits ++ 0b0111#4 ++ BitVec.ofBool u ++ 0b1#1 ++ BitVec.ofBool w ++ 0b0#1 ++ rn ++ rd ++ shiftImm ++ shift.bits ++ 0b0#1 ++ rm)
  | .strbRegPost cond u rn rd shiftImm shift rm => .arm (cond.bits ++ 0b0110#4 ++ BitVec.ofBool u ++ 0b100#3 ++ rn ++ rd ++ shiftImm ++ shift.bits ++ 0b0#1 ++ rm)
  | .strbtReg cond u rn rd shiftImm shift rm => .arm (cond.bits ++ 0b0110#4 ++ BitVec.ofBool u ++ 0b110#3 ++ rn ++ rd ++ shiftImm ++ shift.bits ++ 0b0#1 ++ rm)
  | .ldrbImmPre cond u w rn rd imm12 => .arm (cond.bits ++ 0b0101#4 ++ BitVec.ofBool u ++ 0b1#1 ++ BitVec.ofBool w ++ 0b1#1 ++ rn ++ rd ++ imm12)
  | .ldrbImmPost cond u rn rd imm12 => .arm (cond.bits ++ 0b0100#4 ++ BitVec.ofBool u ++ 0b101#3 ++ rn ++ rd ++ imm12)
  | .ldrbtImm cond u rn rd imm12 => .arm (cond.bits ++ 0b0100#4 ++ BitVec.ofBool u ++ 0b111#3 ++ rn ++ rd ++ imm12)
  | .ldrbRegPre cond u w rn rd shiftImm shift rm => .arm (cond.bits ++ 0b0111#4 ++ BitVec.ofBool u ++ 0b1#1 ++ BitVec.ofBool w ++ 0b1#1 ++ rn ++ rd ++ shiftImm ++ shift.bits ++ 0b0#1 ++ rm)
  | .ldrbRegPost cond u rn rd shiftImm shift rm => .arm (cond.bits ++ 0b0110#4 ++ BitVec.ofBool u ++ 0b101#3 ++ rn ++ rd ++ shiftImm ++ shift.bits ++ 0b0#1 ++ rm)
  | .ldrbtReg cond u rn rd shiftImm shift rm => .arm (cond.bits ++ 0b0110#4 ++ BitVec.ofBool u ++ 0b111#3 ++ rn ++ rd ++ shiftImm ++ shift.bits ++ 0b0#1 ++ rm)
  | .stm cond p u w rn list => .arm (cond.bits ++ 0b100#3 ++ BitVec.ofBool p ++ BitVec.ofBool u ++ 0b0#1 ++ BitVec.ofBool w ++ 0b0#1 ++ rn ++ list)
  | .ldm cond p u w rn list => .arm (cond.bits ++ 0b100#3 ++ BitVec.ofBool p ++ BitVec.ofBool u ++ 0b0#1 ++ BitVec.ofBool w ++ 0b1#1 ++ rn ++ list)
  | .stmS cond p u w rn list => .arm (cond.bits ++ 0b100#3 ++ BitVec.ofBool p ++ BitVec.ofBool u ++ 0b1#1 ++ BitVec.ofBool w ++ 0b0#1 ++ rn ++ list)
  | .ldmS cond p u w rn list => .arm (cond.bits ++ 0b100#3 ++ BitVec.ofBool p ++ BitVec.ofBool u ++ 0b1#1 ++ BitVec.ofBool w ++ 0b1#1 ++ rn ++ list)
  | .b cond offset24 => .arm (cond.bits ++ 0b1010#4 ++ offset24)
  | .bl cond offset24 => .arm (cond.bits ++ 0b1011#4 ++ offset24)
  | .swi cond comment24 => .arm (cond.bits ++ 0b1111#4 ++ comment24)
  | .ldcStc cond p u n w l rn crd cpNum offset8 => .arm (cond.bits ++ 0b110#3 ++ BitVec.ofBool p ++ BitVec.ofBool u ++ BitVec.ofBool n ++ BitVec.ofBool w ++ BitVec.ofBool l ++ rn ++ crd ++ cpNum ++ offset8)
  | .cdp cond op1 crn crd cpNum op2 crm => .arm (cond.bits ++ 0b1110#4 ++ op1 ++ crn ++ crd ++ cpNum ++ op2 ++ 0b0#1 ++ crm)
  | .mrcMcr cond op1 l crn rd cpNum op2 crm => .arm (cond.bits ++ 0b1110#4 ++ op1 ++ BitVec.ofBool l ++ crn ++ rd ++ cpNum ++ op2 ++ 0b1#1 ++ crm)
  | .undefMul00001 w => .arm (w)
  | .undefMul00011 w => .arm (w)
  | .undefSwpX1 w => .arm (w)
  | .undefSwp10 w => .arm (w)
  | .undefLdrdStrd w => .arm (w)
  | .undefMiscBx00 w => .arm (w)
  | .undefMiscBx10 w => .arm (w)
  | .undefMiscBx11 w => .arm (w)
  | .undefMisc01xx w => .arm (w)
  | .undefMisc001x w => .arm (w)
  | .undefMisc1xx0 w => .arm (w)
  | .undefMovStatus w => .arm (w)
  | .undefMedia w => .arm (w)
  | .tLslImm offset5 rs rd => .thumb (0b00000#5 ++ offset5 ++ rs ++ rd)
  | .tLsrImm offset5 rs rd => .thumb (0b00001#5 ++ offset5 ++ rs ++ rd)
  | .tAsrImm offset5 rs rd => .thumb (0b00010#5 ++ offset5 ++ rs ++ rd)
  | .tAddReg rn rs rd => .thumb (0b0001100#7 ++ rn ++ rs ++ rd)
  | .tSubReg rn rs rd => .thumb (0b0001101#7 ++ rn ++ rs ++ rd)
  | .tAddImm3 offset3 rs rd => .thumb (0b0001110#7 ++ offset3 ++ rs ++ rd)
  | .tSubImm3 offset3 rs rd => .thumb (0b0001111#7 ++ offset3 ++ rs ++ rd)
  | .tMovImm8 rd offset8 => .thumb (0b00100#5 ++ rd ++ offset8)
  | .tCmpImm8 rd offset8 => .thumb (0b00101#5 ++ rd ++ offset8)
  | .tAddImm8 rd offset8 => .thumb (0b00110#5 ++ rd ++ offset8)
  | .tSubImm8 rd offset8 => .thumb (0b00111#5 ++ rd ++ offset8)
  | .tAnd rs rd => .thumb (0b0100000000#10 ++ rs ++ rd)
  | .tEor rs rd => .thumb (0b0100000001#10 ++ rs ++ rd)
  | .tLslReg rs rd => .thumb (0b0100000010#10 ++ rs ++ rd)
  | .tLsrReg rs rd => .thumb (0b0100000011#10 ++ rs ++ rd)
  | .tAsrReg rs rd => .thumb (0b0100000100#10 ++ rs ++ rd)
  | .tAdc rs rd => .thumb (0b0100000101#10 ++ rs ++ rd)
  | .tSbc rs rd => .thumb (0b0100000110#10 ++ rs ++ rd)
  | .tRorReg rs rd => .thumb (0b0100000111#10 ++ rs ++ rd)
  | .tTst rs rd => .thumb (0b0100001000#10 ++ rs ++ rd)
  | .tNeg rs rd => .thumb (0b0100001001#10 ++ rs ++ rd)
  | .tCmpReg rs rd => .thumb (0b0100001010#10 ++ rs ++ rd)
  | .tCmn rs rd => .thumb (0b0100001011#10 ++ rs ++ rd)
  | .tOrr rs rd => .thumb (0b0100001100#10 ++ rs ++ rd)
  | .tMul rs rd => .thumb (0b0100001101#10 ++ rs ++ rd)
  | .tBic rs rd => .thumb (0b0100001110#10 ++ rs ++ rd)
  | .tMvn rs rd => .thumb (0b0100001111#10 ++ rs ++ rd)
  | .tAddHi h1 h2 rs rd => .thumb (0b01000100#8 ++ BitVec.ofBool h1 ++ BitVec.ofBool h2 ++ rs ++ rd)
  | .tCmpHi h1 h2 rs rd => .thumb (0b01000101#8 ++ BitVec.ofBool h1 ++ BitVec.ofBool h2 ++ rs ++ rd)
  | .tMovHi h1 h2 rs rd => .thumb (0b01000110#8 ++ BitVec.ofBool h1 ++ BitVec.ofBool h2 ++ rs ++ rd)
  | .tBx h1 h2 rs rd => .thumb (0b01000111#8 ++ BitVec.ofBool h1 ++ BitVec.ofBool h2 ++ rs ++ rd)
  | .tLdrPc rd word8 => .thumb (0b01001#5 ++ rd ++ word8)
  | .tStrReg ro rb rd => .thumb (0b0101000#7 ++ ro ++ rb ++ rd)
  | .tStrbReg ro rb rd => .thumb (0b0101010#7 ++ ro ++ rb ++ rd)
  | .tLdrReg ro rb rd => .thumb (0b0101100#7 ++ ro ++ rb ++ rd)
  | .tLdrbReg ro rb rd => .thumb (0b0101110#7 ++ ro ++ rb ++ rd)
  | .tStrhReg ro rb rd => .thumb (0b0101001#7 ++ ro ++ rb ++ rd)
  | .tLdsbReg ro rb rd => .thumb (0b0101011#7 ++ ro ++ rb ++ rd)
  | .tLdrhReg ro rb rd => .thumb (0b0101101#7 ++ ro ++ rb ++ rd)
  | .tLdshReg ro rb rd => .thumb (0b0101111#7 ++ ro ++ rb ++ rd)
  | .tStrImm offset5 rb rd => .thumb (0b01100#5 ++ offset5 ++ rb ++ rd)
  | .tLdrImm offset5 rb rd => .thumb (0b01101#5 ++ offset5 ++ rb ++ rd)
  | .tStrbImm offset5 rb rd => .thumb (0b01110#5 ++ offset5 ++ rb ++ rd)
  | .tLdrbImm offset5 rb rd => .thumb (0b01111#5 ++ offset5 ++ rb ++ rd)
  | .tStrhImm offset5 rb rd => .thumb (0b10000#5 ++ offset5 ++ rb ++ rd)
  | .tLdrhImm offset5 rb rd => .thumb (0b10001#5 ++ offset5 ++ rb ++ rd)
  | .tStrSp rd word8 => .thumb (0b10010#5 ++ rd ++ word8)
  | .tLdrSp rd word8 => .thumb (0b10011#5 ++ rd ++ word8)
  | .tAddPc rd word8 => .thumb (0b10100#5 ++ rd ++ word8)
  | .tAddSp rd word8 => .thumb (0b10101#5 ++ rd ++ word8)
  | .tAddSpImm s sword7 => .thumb (0b10110000#8 ++ BitVec.ofBool s ++ sword7)
  | .tPush r list => .thumb (0b1011010#7 ++ BitVec.ofBool r ++ list)
  | .tPop r list => .thumb (0b1011110#7 ++ BitVec.ofBool r ++ list)
  | .tStmia rb list => .thumb (0b11000#5 ++ rb ++ list)
  | .tLdmia rb list => .thumb (0b11001#5 ++ rb ++ list)
  | .tBcond0xxx cond soffset8 => .thumb (0b1101#4 ++ cond.bits ++ soffset8)
  | .tBcond10xx cond soffset8 => .thumb (0b1101#4 ++ cond.bits ++ soffset8)
  | .tBcond110x cond soffset8 => .thumb (0b1101#4 ++ cond.bits ++ soffset8)
  | .tSwi value8 => .thumb (0b11011111#8 ++ value8)
  | .tB offset11 => .thumb (0b11100#5 ++ offset11)
  | .tBlPrefix offsetHi => .thumb (0b11110#5 ++ offsetHi)
  | .tBlSuffix offsetLo => .thumb (0b11111#5 ++ offsetLo)
  | .tUndef10110001 w => .thumb (w)
  | .tUndef1011001x w => .thumb (w)
  | .tUndef1011011x w => .thumb (w)
  | .tUndef101110xx w => .thumb (w)
  | .tUndef1011111x w => .thumb (w)
  | .tUndef11011110 w => .thumb (w)
  | .tUndef11101 w => .thumb (w)

/-! ## Byte forms -/

/-- The bytes of a code in memory, the lowest address first (30_encoding.md R200, 20_memory.md R101). -/
def Code.bytes : Code → List Byte
  | .arm w => [field w 0 8, field w 8 8, field w 16 8, field w 24 8]
  | .thumb h => [field h 0 8, field h 8 8]

/-- Why bytes decode to nothing: fewer of them than the instruction has. -/
inductive DecodeError where
  /-- The byte list ends before the four bytes of an ARM word or the two of a THUMB halfword. -/
  | truncated (needed : Nat)
  deriving DecidableEq, Repr

/-- Decoding of the bytes at the program counter in ARM (`thumb = false`) or THUMB state: the instruction
and the bytes after it (30_encoding.md R200). -/
def decode (thumb : Bool) (bytes : List Byte) : Except DecodeError (Instr × List Byte) :=
  if thumb then
    match bytes with
    | b0 :: b1 :: rest => .ok (decodeThumb (b1 ++ b0), rest)
    | _ => .error (.truncated 2)
  else
    match bytes with
    | b0 :: b1 :: b2 :: b3 :: rest => .ok (decodeArm (b3 ++ b2 ++ b1 ++ b0), rest)
    | _ => .error (.truncated 4)

/-- The instruction whose table bits are `w` (bit 0 the least significant bit of the word): a row of at
most 16 bits is a THUMB halfword, a longer one an ARM word. -/
def decodeTableWord (nbits w : Nat) : Option Instr :=
  let thumb := decide (nbits ≤ 16)
  let code : Code := if thumb then .thumb (BitVec.ofNat 16 w) else .arm (BitVec.ofNat 32 w)
  match decode thumb code.bytes with
  | .ok (i, _) => some i
  | .error _ => none

end Sys2Proof
end

