-- ==== Sys2Proof/Machine/ArmSystem.lean ====
section
/-! DEFINITION. ARM instructions that enter an exception by design (spec/44_arm_system.md R400..R404). -/

namespace Sys2Proof.Machine

open Sys2Proof

/-- The condition field of an undefined word (30_encoding.md R206). -/
def wordCond (w : Word) : Cond := Cond.ofBits (field w 28 4)

/-- SWI, SWI (R400). -/
def execSwi (cond : Cond) (_comment24 : BitVec 24) (st : State) : Result :=
  st.whenPassed cond (fun st => .next st.takeSwi)

/-- LDC_STC, CP transfer (LDC/STC) (R401). -/
def execLdcStc (cond : Cond) (_p _u _n _w _l : Bool) (_rn : RegNum) (_crd _cpNum : BitVec 4) (_offset8 : BitVec 8)
    (st : State) : Result :=
  st.whenPassed cond (fun st => .next st.takeUndefined)

/-- CDP, CP data op (CDP) (R402). -/
def execCdp (cond : Cond) (_op1 _crn _crd _cpNum : BitVec 4) (_op2 : BitVec 3) (_crm : BitVec 4)
    (st : State) : Result :=
  st.whenPassed cond (fun st => .next st.takeUndefined)

/-- MRC_MCR, CP register (MRC/MCR) (R403). -/
def execMrcMcr (cond : Cond) (_op1 : BitVec 3) (_l : Bool) (_crn : BitVec 4) (_rd : RegNum) (_cpNum : BitVec 4) (_op2 : BitVec 3) (_crm : BitVec 4)
    (st : State) : Result :=
  st.whenPassed cond (fun st => .next st.takeUndefined)

/-- UNDEF, UNDEF (a) multiply space, 0000 01 (R404). -/
def execUndefMul00001 (w : Word) (st : State) : Result :=
  st.whenPassed (wordCond w) (fun st => .next st.takeUndefined)

/-- UNDEF, UNDEF (a) multiply space, 0001 1 (R404). -/
def execUndefMul00011 (w : Word) (st : State) : Result :=
  st.whenPassed (wordCond w) (fun st => .next st.takeUndefined)

/-- UNDEF, UNDEF (a) swap space, 0001 0x x1 (R404). -/
def execUndefSwpX1 (w : Word) (st : State) : Result := st.whenPassed (wordCond w) (fun st => .next st.takeUndefined)

/-- UNDEF, UNDEF (a) swap space, 0001 0x 10 (R404). -/
def execUndefSwp10 (w : Word) (st : State) : Result := st.whenPassed (wordCond w) (fun st => .next st.takeUndefined)

/-- UNDEF, UNDEF (b) LDRD/STRD space (R404). -/
def execUndefLdrdStrd (w : Word) (st : State) : Result :=
  st.whenPassed (wordCond w) (fun st => .next st.takeUndefined)

/-- UNDEF, UNDEF (c) misc space, 0001 x00 / 0001 (R404). -/
def execUndefMiscBx00 (w : Word) (st : State) : Result :=
  st.whenPassed (wordCond w) (fun st => .next st.takeUndefined)

/-- UNDEF, UNDEF (c) misc space, 0001 x10 / 0001 (R404). -/
def execUndefMiscBx10 (w : Word) (st : State) : Result :=
  st.whenPassed (wordCond w) (fun st => .next st.takeUndefined)

/-- UNDEF, UNDEF (c) misc space, 0001 x11 / 0001 (R404). -/
def execUndefMiscBx11 (w : Word) (st : State) : Result :=
  st.whenPassed (wordCond w) (fun st => .next st.takeUndefined)

/-- UNDEF, UNDEF (c) misc space, 01xx (R404). -/
def execUndefMisc01xx (w : Word) (st : State) : Result :=
  st.whenPassed (wordCond w) (fun st => .next st.takeUndefined)

/-- UNDEF, UNDEF (c) misc space, 001x (R404). -/
def execUndefMisc001x (w : Word) (st : State) : Result :=
  st.whenPassed (wordCond w) (fun st => .next st.takeUndefined)

/-- UNDEF, UNDEF (c) misc space, 1xx0 (R404). -/
def execUndefMisc1xx0 (w : Word) (st : State) : Result :=
  st.whenPassed (wordCond w) (fun st => .next st.takeUndefined)

/-- UNDEF, UNDEF (d) MOV immediate to status (R404). -/
def execUndefMovStatus (w : Word) (st : State) : Result :=
  st.whenPassed (wordCond w) (fun st => .next st.takeUndefined)

/-- UNDEF, UNDEF (e) media space (R404). -/
def execUndefMedia (w : Word) (st : State) : Result := st.whenPassed (wordCond w) (fun st => .next st.takeUndefined)

end Sys2Proof.Machine
end

