-- ==== Sys2Proof/Machine/ThumbAlu.lean ====
section
/-! DEFINITION. THUMB formats 1 to 5 (spec/45_thumb_alu.md R420..R464). -/

namespace Sys2Proof.Machine

open Sys2Proof

/-- A low-register operation that writes `Rd` and the flags, as the S = 1 form of its ARM equivalent (R420). -/
def thumbAlu (op : DpOp) (rd : LowReg) (a b : Word) (sc : Bool) (st : State) : Result :=
  let r := dpCompute op a b st.cpu.cpsr.c st.cpu.cpsr.v sc
  let st := if dpWritesRd op then st.setReg (lowReg rd) r.result else st
  .next (st.setCpsr (st.cpu.cpsr.setNzcv r)).advance

/-- A format 4 operation on `Rd` and `Rs`, whose shifter carry-out is C (R440..R455). -/
def thumbAluReg (op : DpOp) (rs rd : LowReg) (st : State) : Result :=
  thumbAlu op rd (st.reg (lowReg rd)) (st.reg (lowReg rs)) st.cpu.cpsr.c st

/-- A format 1 shift (R421..R423). -/
def thumbShiftImm (kind : ShiftKind) (amount : BitVec 5) (rs rd : LowReg) (st : State) : Result :=
  let o := shiftImmediate kind amount (st.reg (lowReg rs)) st.cpu.cpsr.c
  thumbAlu .mov rd 0#32 o.1 o.2 st

/-- A format 4 shift by the low byte of `Rs`, with one internal cycle (R442..R444, R447). -/
def thumbShiftReg (kind : ShiftKind) (rs rd : LowReg) (st : State) : Result :=
  let o := shiftRegister kind ((st.reg (lowReg rs)).extractLsb' 0 8) (st.reg (lowReg rd)) st.cpu.cpsr.c
  thumbAlu .mov rd 0#32 o.1 o.2 (st.internal 1)

/-- `Unpredictable(format 5 with two low registers) else k` (R460). -/
def format5 (h1 h2 : Bool) (st : State) (k : Result) : Result := st.unpredictable .format5TwoLow (!h1 && !h2) k

/-- MUL (R453): `m` from the original `Rd`; C and V unchanged. -/
def thumbMultiply (rs rd : LowReg) (st : State) : Result := multiply true (lowReg rd) (lowReg rd) (lowReg rs) 0#32 0 st

/-- LSL, 1: LSL imm (R421). -/
def execTLslImm (offset5 : BitVec 5) (rs rd : LowReg) (st : State) : Result := thumbShiftImm .lsl offset5 rs rd st

/-- LSR, 1: LSR imm (R422). -/
def execTLsrImm (offset5 : BitVec 5) (rs rd : LowReg) (st : State) : Result := thumbShiftImm .lsr offset5 rs rd st

/-- ASR, 1: ASR imm (R423). -/
def execTAsrImm (offset5 : BitVec 5) (rs rd : LowReg) (st : State) : Result := thumbShiftImm .asr offset5 rs rd st

/-- ADD, 2: ADD reg (R424). -/
def execTAddReg (rn rs rd : LowReg) (st : State) : Result :=
  thumbAlu .add rd (st.reg (lowReg rs)) (st.reg (lowReg rn)) st.cpu.cpsr.c st

/-- SUB, 2: SUB reg (R425). -/
def execTSubReg (rn rs rd : LowReg) (st : State) : Result :=
  thumbAlu .sub rd (st.reg (lowReg rs)) (st.reg (lowReg rn)) st.cpu.cpsr.c st

/-- ADD, 2: ADD imm3 (R426). -/
def execTAddImm3 (offset3 : BitVec 3) (rs rd : LowReg) (st : State) : Result :=
  thumbAlu .add rd (st.reg (lowReg rs)) (scaled offset3 0) st.cpu.cpsr.c st

/-- SUB, 2: SUB imm3 (R427). -/
def execTSubImm3 (offset3 : BitVec 3) (rs rd : LowReg) (st : State) : Result :=
  thumbAlu .sub rd (st.reg (lowReg rs)) (scaled offset3 0) st.cpu.cpsr.c st

/-- MOV, 3: MOV imm8 (R430). -/
def execTMovImm8 (rd : LowReg) (offset8 : BitVec 8) (st : State) : Result :=
  thumbAlu .mov rd 0#32 (scaled offset8 0) st.cpu.cpsr.c st

/-- CMP, 3: CMP imm8 (R431). -/
def execTCmpImm8 (rd : LowReg) (offset8 : BitVec 8) (st : State) : Result :=
  thumbAlu .cmp rd (st.reg (lowReg rd)) (scaled offset8 0) st.cpu.cpsr.c st

/-- ADD, 3: ADD imm8 (R432). -/
def execTAddImm8 (rd : LowReg) (offset8 : BitVec 8) (st : State) : Result :=
  thumbAlu .add rd (st.reg (lowReg rd)) (scaled offset8 0) st.cpu.cpsr.c st

/-- SUB, 3: SUB imm8 (R433). -/
def execTSubImm8 (rd : LowReg) (offset8 : BitVec 8) (st : State) : Result :=
  thumbAlu .sub rd (st.reg (lowReg rd)) (scaled offset8 0) st.cpu.cpsr.c st

/-- AND, 4: AND (ALU) (R440). -/
def execTAnd (rs rd : LowReg) (st : State) : Result := thumbAluReg .and rs rd st

/-- EOR, 4: EOR (ALU) (R441). -/
def execTEor (rs rd : LowReg) (st : State) : Result := thumbAluReg .eor rs rd st

/-- LSL, 4: LSL (ALU) (R442). -/
def execTLslReg (rs rd : LowReg) (st : State) : Result := thumbShiftReg .lsl rs rd st

/-- LSR, 4: LSR (ALU) (R443). -/
def execTLsrReg (rs rd : LowReg) (st : State) : Result := thumbShiftReg .lsr rs rd st

/-- ASR, 4: ASR (ALU) (R444). -/
def execTAsrReg (rs rd : LowReg) (st : State) : Result := thumbShiftReg .asr rs rd st

/-- ADC, 4: ADC (ALU) (R445). -/
def execTAdc (rs rd : LowReg) (st : State) : Result := thumbAluReg .adc rs rd st

/-- SBC, 4: SBC (ALU) (R446). -/
def execTSbc (rs rd : LowReg) (st : State) : Result := thumbAluReg .sbc rs rd st

/-- ROR, 4: ROR (ALU) (R447). -/
def execTRorReg (rs rd : LowReg) (st : State) : Result := thumbShiftReg .ror rs rd st

/-- TST, 4: TST (ALU) (R448). -/
def execTTst (rs rd : LowReg) (st : State) : Result := thumbAluReg .tst rs rd st

/-- NEG, 4: NEG (ALU) (R449). -/
def execTNeg (rs rd : LowReg) (st : State) : Result := thumbAlu .rsb rd (st.reg (lowReg rs)) 0#32 st.cpu.cpsr.c st

/-- CMP, 4: CMP (ALU) (R450). -/
def execTCmpReg (rs rd : LowReg) (st : State) : Result := thumbAluReg .cmp rs rd st

/-- CMN, 4: CMN (ALU) (R451). -/
def execTCmn (rs rd : LowReg) (st : State) : Result := thumbAluReg .cmn rs rd st

/-- ORR, 4: ORR (ALU) (R452). -/
def execTOrr (rs rd : LowReg) (st : State) : Result := thumbAluReg .orr rs rd st

/-- MUL, 4: MUL (ALU) (R453). -/
def execTMul (rs rd : LowReg) (st : State) : Result := thumbMultiply rs rd st

/-- BIC, 4: BIC (ALU) (R454). -/
def execTBic (rs rd : LowReg) (st : State) : Result := thumbAluReg .bic rs rd st

/-- MVN, 4: MVN (ALU) (R455). -/
def execTMvn (rs rd : LowReg) (st : State) : Result := thumbAluReg .mvn rs rd st

/-- ADD, 5: ADD hi (R461). -/
def execTAddHi (h1 h2 : Bool) (rs rd : LowReg) (st : State) : Result :=
  format5 h1 h2 st (.next (st.finish (hiReg h1 rd) (st.reg (hiReg h1 rd) + st.reg (hiReg h2 rs))))

/-- CMP, 5: CMP hi (R462). -/
def execTCmpHi (h1 h2 : Bool) (rs rd : LowReg) (st : State) : Result :=
  format5 h1 h2 st
    (.next (st.setCpsr (st.cpu.cpsr.setNzcv (subWithCarry (st.reg (hiReg h1 rd)) (st.reg (hiReg h2 rs)) true))).advance)

/-- MOV, 5: MOV hi (R463). -/
def execTMovHi (h1 h2 : Bool) (rs rd : LowReg) (st : State) : Result :=
  format5 h1 h2 st (.next (st.finish (hiReg h1 rd) (st.reg (hiReg h2 rs))))

/-- BX, 5: BX (THUMB) (R464). -/
def execTBx (h1 h2 : Bool) (rs _rd : LowReg) (st : State) : Result :=
  st.unpredictable .thumbBxH1 h1 (.next (st.exchange (st.reg (hiReg h2 rs))))

end Sys2Proof.Machine
end

