-- ==== Sys2Proof/Machine/ThumbBranch.lean ====
section
/-! DEFINITION. THUMB formats 16 to 19 (spec/47_thumb_branch.md R530..R534) and the undefined THUMB encodings
(44_arm_system.md R405). -/

namespace Sys2Proof.Machine

open Sys2Proof

/-- B<cond> (R530). -/
def thumbBranchCond (cond : Cond) (soffset8 : BitVec 8) (st : State) : Result :=
  st.whenPassed cond (fun st => .next (st.branch (st.pcRead + branchOffset8 soffset8)))

/-- B<cond>, 16: B<cond> (T), cond 0xxx (R530). -/
def execTBcond0xxx (cond : Cond) (soffset8 : BitVec 8) (st : State) : Result := thumbBranchCond cond soffset8 st

/-- B<cond>, 16: B<cond> (T), cond 10xx (R530). -/
def execTBcond10xx (cond : Cond) (soffset8 : BitVec 8) (st : State) : Result := thumbBranchCond cond soffset8 st

/-- B<cond>, 16: B<cond> (T), cond 110x (R530). -/
def execTBcond110x (cond : Cond) (soffset8 : BitVec 8) (st : State) : Result := thumbBranchCond cond soffset8 st

/-- SWI, 17: SWI (T) (R531). -/
def execTSwi (_value8 : BitVec 8) (st : State) : Result := .next st.takeSwi

/-- B, 18: B (T) (R532). -/
def execTB (offset11 : BitVec 11) (st : State) : Result := .next (st.branch (st.pcRead + branchOffset11 offset11))

/-- BL, 19: BL prefix (T) (R533). -/
def execTBlPrefix (offsetHi : BitVec 11) (st : State) : Result :=
  .next (st.finish 14#4 (st.pcRead + blOffsetHigh offsetHi))

/-- BL, 19: BL suffix (T) (R534). -/
def execTBlSuffix (offsetLo : BitVec 11) (st : State) : Result :=
  let target := st.reg 14#4 + blOffsetLow offsetLo
  .next ((st.setReg 14#4 ((st.cpu.pc + 2#32) ||| 1#32)).branch target)

/-- UNDEF, UNDEF 1011 0001 (R405). -/
def execTUndef10110001 (_w : Half) (st : State) : Result := .next st.takeUndefined

/-- UNDEF, UNDEF 1011 001x (R405). -/
def execTUndef1011001x (_w : Half) (st : State) : Result := .next st.takeUndefined

/-- UNDEF, UNDEF 1011 011x (R405). -/
def execTUndef1011011x (_w : Half) (st : State) : Result := .next st.takeUndefined

/-- UNDEF, UNDEF 1011 10xx (R405). -/
def execTUndef101110xx (_w : Half) (st : State) : Result := .next st.takeUndefined

/-- UNDEF, UNDEF 1011 111x (R405). -/
def execTUndef1011111x (_w : Half) (st : State) : Result := .next st.takeUndefined

/-- UNDEF, UNDEF 1101 1110 (R405). -/
def execTUndef11011110 (_w : Half) (st : State) : Result := .next st.takeUndefined

/-- UNDEF, UNDEF 11101 (R405). -/
def execTUndef11101 (_w : Half) (st : State) : Result := .next st.takeUndefined

end Sys2Proof.Machine
end

