-- ==== Sys2Proof/Machine/ThumbMem.lean ====
section
/-! DEFINITION. THUMB formats 6 to 15 (spec/46_thumb_mem.md R480..R504). -/

namespace Sys2Proof.Machine

open Sys2Proof

/-- The PC of formats 6 and 12: `(A + 4) AND NOT 3` (R480, R497). -/
def State.pcWord (s : State) : Word := s.pcRead &&& 0xFFFFFFFC#32

/-- A load into a low register (R480, R483, R484, R486..R488). -/
def thumbLoad (k : LoadKind) (rd : LowReg) (a : Word) (st : State) : Result :=
  .next (st.loadReg k a false 0#4 0#32 (lowReg rd))

/-- A store of a low register (R481, R482, R485). -/
def thumbStore (w : Width) (rd : LowReg) (a : Word) (st : State) : Result :=
  st.storeReg w a (st.reg (lowReg rd)) false 0#4 0#32

/-- The address `x[Rb] + x[Ro]` (R481). -/
def State.regOffset (s : State) (rb ro : LowReg) : Word := s.reg (lowReg rb) + s.reg (lowReg ro)

/-- The list of PUSH, with R14 when `R = 1` (R500). -/
def pushList (r : Bool) (list : BitVec 8) : BitVec 16 := 0#1 ++ BitVec.ofBool r ++ 0#6 ++ list

/-- The list of POP, with R15 when `R = 1` (R501). -/
def popList (r : Bool) (list : BitVec 8) : BitVec 16 := BitVec.ofBool r ++ 0#7 ++ list

/-- The list of STMIA and LDMIA (R502, R503). -/
def lowList (list : BitVec 8) : BitVec 16 := 0#8 ++ list

/-- A THUMB store-multiple; an empty list stores `A + 6` (R500, R502, R504). -/
def thumbStoreMultiple (p u : Bool) (rn : RegNum) (list : BitVec 16) (st : State) : Result :=
  st.storeMultiple st.cpu.bank (blockPlan p u (st.reg rn) list) true rn

/-- A THUMB load-multiple; an empty list loads R15 (R501, R503, R504). -/
def thumbLoadMultiple (rn : RegNum) (list : BitVec 16) (st : State) : Result :=
  st.loadMultiple st.cpu.bank (blockPlan false true (st.reg rn) list) true rn false

/-- LDR, 6: LDR PC-rel (R480). -/
def execTLdrPc (rd : LowReg) (word8 : BitVec 8) (st : State) : Result :=
  thumbLoad .word rd (st.pcWord + scaled word8 2) st

/-- STR, 7: STR reg (T) (R481). -/
def execTStrReg (ro rb rd : LowReg) (st : State) : Result := thumbStore .word rd (st.regOffset rb ro) st

/-- STRB, 7: STRB reg (T) (R482). -/
def execTStrbReg (ro rb rd : LowReg) (st : State) : Result := thumbStore .byte rd (st.regOffset rb ro) st

/-- LDR, 7: LDR reg (T) (R483). -/
def execTLdrReg (ro rb rd : LowReg) (st : State) : Result := thumbLoad .word rd (st.regOffset rb ro) st

/-- LDRB, 7: LDRB reg (T) (R484). -/
def execTLdrbReg (ro rb rd : LowReg) (st : State) : Result := thumbLoad .byte rd (st.regOffset rb ro) st

/-- STRH, 8: STRH reg (T) (R485). -/
def execTStrhReg (ro rb rd : LowReg) (st : State) : Result := thumbStore .half rd (st.regOffset rb ro) st

/-- LDSB, 8: LDSB reg (T) (R486). -/
def execTLdsbReg (ro rb rd : LowReg) (st : State) : Result := thumbLoad .signedByte rd (st.regOffset rb ro) st

/-- LDRH, 8: LDRH reg (T) (R487). -/
def execTLdrhReg (ro rb rd : LowReg) (st : State) : Result := thumbLoad .half rd (st.regOffset rb ro) st

/-- LDSH, 8: LDSH reg (T) (R488). -/
def execTLdshReg (ro rb rd : LowReg) (st : State) : Result := thumbLoad .signedHalf rd (st.regOffset rb ro) st

/-- STR, 9: STR imm (T) (R489). -/
def execTStrImm (offset5 : BitVec 5) (rb rd : LowReg) (st : State) : Result :=
  thumbStore .word rd (st.reg (lowReg rb) + scaled offset5 2) st

/-- LDR, 9: LDR imm (T) (R490). -/
def execTLdrImm (offset5 : BitVec 5) (rb rd : LowReg) (st : State) : Result :=
  thumbLoad .word rd (st.reg (lowReg rb) + scaled offset5 2) st

/-- STRB, 9: STRB imm (T) (R491). -/
def execTStrbImm (offset5 : BitVec 5) (rb rd : LowReg) (st : State) : Result :=
  thumbStore .byte rd (st.reg (lowReg rb) + scaled offset5 0) st

/-- LDRB, 9: LDRB imm (T) (R492). -/
def execTLdrbImm (offset5 : BitVec 5) (rb rd : LowReg) (st : State) : Result :=
  thumbLoad .byte rd (st.reg (lowReg rb) + scaled offset5 0) st

/-- STRH, 10: STRH imm (T) (R493). -/
def execTStrhImm (offset5 : BitVec 5) (rb rd : LowReg) (st : State) : Result :=
  thumbStore .half rd (st.reg (lowReg rb) + scaled offset5 1) st

/-- LDRH, 10: LDRH imm (T) (R494). -/
def execTLdrhImm (offset5 : BitVec 5) (rb rd : LowReg) (st : State) : Result :=
  thumbLoad .half rd (st.reg (lowReg rb) + scaled offset5 1) st

/-- STR, 11: STR SP-rel (R495). -/
def execTStrSp (rd : LowReg) (word8 : BitVec 8) (st : State) : Result :=
  thumbStore .word rd (st.reg 13#4 + scaled word8 2) st

/-- LDR, 11: LDR SP-rel (R496). -/
def execTLdrSp (rd : LowReg) (word8 : BitVec 8) (st : State) : Result :=
  thumbLoad .word rd (st.reg 13#4 + scaled word8 2) st

/-- ADD, 12: ADD PC-rel (R497). -/
def execTAddPc (rd : LowReg) (word8 : BitVec 8) (st : State) : Result :=
  .next (st.finish (lowReg rd) (st.pcWord + scaled word8 2))

/-- ADD, 12: ADD SP-rel (R498). -/
def execTAddSp (rd : LowReg) (word8 : BitVec 8) (st : State) : Result :=
  .next (st.finish (lowReg rd) (st.reg 13#4 + scaled word8 2))

/-- ADD, 13: ADD SP imm (R499). -/
def execTAddSpImm (s : Bool) (sword7 : BitVec 7) (st : State) : Result :=
  .next (st.finish 13#4 (moveBase (!s) (st.reg 13#4) (scaled sword7 2)))

/-- PUSH, 14: PUSH (R500). -/
def execTPush (r : Bool) (list : BitVec 8) (st : State) : Result :=
  thumbStoreMultiple true false 13#4 (pushList r list) st

/-- POP, 14: POP (R501). -/
def execTPop (r : Bool) (list : BitVec 8) (st : State) : Result := thumbLoadMultiple 13#4 (popList r list) st

/-- STMIA, 15: STMIA (T) (R502). -/
def execTStmia (rb : LowReg) (list : BitVec 8) (st : State) : Result :=
  thumbStoreMultiple false true (lowReg rb) (lowList list) st

/-- LDMIA, 15: LDMIA (T) (R503). -/
def execTLdmia (rb : LowReg) (list : BitVec 8) (st : State) : Result :=
  thumbLoadMultiple (lowReg rb) (lowList list) st

end Sys2Proof.Machine
end

