-- ==== Sys2Proof/Machine/Dispatch.lean ====
section
/-! DEFINITION. The dispatch: one direct call of a meaning per instruction. -/

namespace Sys2Proof.Machine

open Sys2Proof

/-- What an instruction does to a state whose `pc` is its exec address. -/
def exec (i : Instr) (s : State) : Host.Outcome State Fault Refusal :=
  match i with
  | .andShi cond sf rn rd shiftImm shift rm => Sys2Proof.Machine.execAndShi cond sf rn rd shiftImm shift rm s
  | .andShr cond sf rn rd rs shift rm => Sys2Proof.Machine.execAndShr cond sf rn rd rs shift rm s
  | .andImm cond sf rn rd rotate imm8 => Sys2Proof.Machine.execAndImm cond sf rn rd rotate imm8 s
  | .eorShi cond sf rn rd shiftImm shift rm => Sys2Proof.Machine.execEorShi cond sf rn rd shiftImm shift rm s
  | .eorShr cond sf rn rd rs shift rm => Sys2Proof.Machine.execEorShr cond sf rn rd rs shift rm s
  | .eorImm cond sf rn rd rotate imm8 => Sys2Proof.Machine.execEorImm cond sf rn rd rotate imm8 s
  | .subShi cond sf rn rd shiftImm shift rm => Sys2Proof.Machine.execSubShi cond sf rn rd shiftImm shift rm s
  | .subShr cond sf rn rd rs shift rm => Sys2Proof.Machine.execSubShr cond sf rn rd rs shift rm s
  | .subImm cond sf rn rd rotate imm8 => Sys2Proof.Machine.execSubImm cond sf rn rd rotate imm8 s
  | .rsbShi cond sf rn rd shiftImm shift rm => Sys2Proof.Machine.execRsbShi cond sf rn rd shiftImm shift rm s
  | .rsbShr cond sf rn rd rs shift rm => Sys2Proof.Machine.execRsbShr cond sf rn rd rs shift rm s
  | .rsbImm cond sf rn rd rotate imm8 => Sys2Proof.Machine.execRsbImm cond sf rn rd rotate imm8 s
  | .addShi cond sf rn rd shiftImm shift rm => Sys2Proof.Machine.execAddShi cond sf rn rd shiftImm shift rm s
  | .addShr cond sf rn rd rs shift rm => Sys2Proof.Machine.execAddShr cond sf rn rd rs shift rm s
  | .addImm cond sf rn rd rotate imm8 => Sys2Proof.Machine.execAddImm cond sf rn rd rotate imm8 s
  | .adcShi cond sf rn rd shiftImm shift rm => Sys2Proof.Machine.execAdcShi cond sf rn rd shiftImm shift rm s
  | .adcShr cond sf rn rd rs shift rm => Sys2Proof.Machine.execAdcShr cond sf rn rd rs shift rm s
  | .adcImm cond sf rn rd rotate imm8 => Sys2Proof.Machine.execAdcImm cond sf rn rd rotate imm8 s
  | .sbcShi cond sf rn rd shiftImm shift rm => Sys2Proof.Machine.execSbcShi cond sf rn rd shiftImm shift rm s
  | .sbcShr cond sf rn rd rs shift rm => Sys2Proof.Machine.execSbcShr cond sf rn rd rs shift rm s
  | .sbcImm cond sf rn rd rotate imm8 => Sys2Proof.Machine.execSbcImm cond sf rn rd rotate imm8 s
  | .rscShi cond sf rn rd shiftImm shift rm => Sys2Proof.Machine.execRscShi cond sf rn rd shiftImm shift rm s
  | .rscShr cond sf rn rd rs shift rm => Sys2Proof.Machine.execRscShr cond sf rn rd rs shift rm s
  | .rscImm cond sf rn rd rotate imm8 => Sys2Proof.Machine.execRscImm cond sf rn rd rotate imm8 s
  | .tstShi cond rn shiftImm shift rm => Sys2Proof.Machine.execTstShi cond rn shiftImm shift rm s
  | .tstShr cond rn rs shift rm => Sys2Proof.Machine.execTstShr cond rn rs shift rm s
  | .tstImm cond rn rotate imm8 => Sys2Proof.Machine.execTstImm cond rn rotate imm8 s
  | .teqShi cond rn shiftImm shift rm => Sys2Proof.Machine.execTeqShi cond rn shiftImm shift rm s
  | .teqShr cond rn rs shift rm => Sys2Proof.Machine.execTeqShr cond rn rs shift rm s
  | .teqImm cond rn rotate imm8 => Sys2Proof.Machine.execTeqImm cond rn rotate imm8 s
  | .cmpShi cond rn shiftImm shift rm => Sys2Proof.Machine.execCmpShi cond rn shiftImm shift rm s
  | .cmpShr cond rn rs shift rm => Sys2Proof.Machine.execCmpShr cond rn rs shift rm s
  | .cmpImm cond rn rotate imm8 => Sys2Proof.Machine.execCmpImm cond rn rotate imm8 s
  | .cmnShi cond rn shiftImm shift rm => Sys2Proof.Machine.execCmnShi cond rn shiftImm shift rm s
  | .cmnShr cond rn rs shift rm => Sys2Proof.Machine.execCmnShr cond rn rs shift rm s
  | .cmnImm cond rn rotate imm8 => Sys2Proof.Machine.execCmnImm cond rn rotate imm8 s
  | .orrShi cond sf rn rd shiftImm shift rm => Sys2Proof.Machine.execOrrShi cond sf rn rd shiftImm shift rm s
  | .orrShr cond sf rn rd rs shift rm => Sys2Proof.Machine.execOrrShr cond sf rn rd rs shift rm s
  | .orrImm cond sf rn rd rotate imm8 => Sys2Proof.Machine.execOrrImm cond sf rn rd rotate imm8 s
  | .movShi cond sf rd shiftImm shift rm => Sys2Proof.Machine.execMovShi cond sf rd shiftImm shift rm s
  | .movShr cond sf rd rs shift rm => Sys2Proof.Machine.execMovShr cond sf rd rs shift rm s
  | .movImm cond sf rd rotate imm8 => Sys2Proof.Machine.execMovImm cond sf rd rotate imm8 s
  | .bicShi cond sf rn rd shiftImm shift rm => Sys2Proof.Machine.execBicShi cond sf rn rd shiftImm shift rm s
  | .bicShr cond sf rn rd rs shift rm => Sys2Proof.Machine.execBicShr cond sf rn rd rs shift rm s
  | .bicImm cond sf rn rd rotate imm8 => Sys2Proof.Machine.execBicImm cond sf rn rd rotate imm8 s
  | .mvnShi cond sf rd shiftImm shift rm => Sys2Proof.Machine.execMvnShi cond sf rd shiftImm shift rm s
  | .mvnShr cond sf rd rs shift rm => Sys2Proof.Machine.execMvnShr cond sf rd rs shift rm s
  | .mvnImm cond sf rd rotate imm8 => Sys2Proof.Machine.execMvnImm cond sf rd rotate imm8 s
  | .mul cond sf rd rs rm => Sys2Proof.Machine.execMul cond sf rd rs rm s
  | .mla cond sf rd rn rs rm => Sys2Proof.Machine.execMla cond sf rd rn rs rm s
  | .umull cond sf rdHi rdLo rs rm => Sys2Proof.Machine.execUmull cond sf rdHi rdLo rs rm s
  | .umlal cond sf rdHi rdLo rs rm => Sys2Proof.Machine.execUmlal cond sf rdHi rdLo rs rm s
  | .smull cond sf rdHi rdLo rs rm => Sys2Proof.Machine.execSmull cond sf rdHi rdLo rs rm s
  | .smlal cond sf rdHi rdLo rs rm => Sys2Proof.Machine.execSmlal cond sf rdHi rdLo rs rm s
  | .swp cond rn rd rm => Sys2Proof.Machine.execSwp cond rn rd rm s
  | .swpb cond rn rd rm => Sys2Proof.Machine.execSwpb cond rn rd rm s
  | .mrs cond r rd => Sys2Proof.Machine.execMrs cond r rd s
  | .msrReg cond r mask rm => Sys2Proof.Machine.execMsrReg cond r mask rm s
  | .msrImm cond r mask rotate imm8 => Sys2Proof.Machine.execMsrImm cond r mask rotate imm8 s
  | .bx cond rm => Sys2Proof.Machine.execBx cond rm s
  | .strhReg cond p u w rn rd rm => Sys2Proof.Machine.execStrhReg cond p u w rn rd rm s
  | .strhImm cond p u w rn rd immH immL => Sys2Proof.Machine.execStrhImm cond p u w rn rd immH immL s
  | .ldrhReg cond p u w rn rd rm => Sys2Proof.Machine.execLdrhReg cond p u w rn rd rm s
  | .ldrhImm cond p u w rn rd immH immL => Sys2Proof.Machine.execLdrhImm cond p u w rn rd immH immL s
  | .ldrsbReg cond p u w rn rd rm => Sys2Proof.Machine.execLdrsbReg cond p u w rn rd rm s
  | .ldrsbImm cond p u w rn rd immH immL => Sys2Proof.Machine.execLdrsbImm cond p u w rn rd immH immL s
  | .ldrshReg cond p u w rn rd rm => Sys2Proof.Machine.execLdrshReg cond p u w rn rd rm s
  | .ldrshImm cond p u w rn rd immH immL => Sys2Proof.Machine.execLdrshImm cond p u w rn rd immH immL s
  | .strImmPre cond u w rn rd imm12 => Sys2Proof.Machine.execStrImmPre cond u w rn rd imm12 s
  | .strImmPost cond u rn rd imm12 => Sys2Proof.Machine.execStrImmPost cond u rn rd imm12 s
  | .strtImm cond u rn rd imm12 => Sys2Proof.Machine.execStrtImm cond u rn rd imm12 s
  | .strRegPre cond u w rn rd shiftImm shift rm => Sys2Proof.Machine.execStrRegPre cond u w rn rd shiftImm shift rm s
  | .strRegPost cond u rn rd shiftImm shift rm => Sys2Proof.Machine.execStrRegPost cond u rn rd shiftImm shift rm s
  | .strtReg cond u rn rd shiftImm shift rm => Sys2Proof.Machine.execStrtReg cond u rn rd shiftImm shift rm s
  | .ldrImmPre cond u w rn rd imm12 => Sys2Proof.Machine.execLdrImmPre cond u w rn rd imm12 s
  | .ldrImmPost cond u rn rd imm12 => Sys2Proof.Machine.execLdrImmPost cond u rn rd imm12 s
  | .ldrtImm cond u rn rd imm12 => Sys2Proof.Machine.execLdrtImm cond u rn rd imm12 s
  | .ldrRegPre cond u w rn rd shiftImm shift rm => Sys2Proof.Machine.execLdrRegPre cond u w rn rd shiftImm shift rm s
  | .ldrRegPost cond u rn rd shiftImm shift rm => Sys2Proof.Machine.execLdrRegPost cond u rn rd shiftImm shift rm s
  | .ldrtReg cond u rn rd shiftImm shift rm => Sys2Proof.Machine.execLdrtReg cond u rn rd shiftImm shift rm s
  | .strbImmPre cond u w rn rd imm12 => Sys2Proof.Machine.execStrbImmPre cond u w rn rd imm12 s
  | .strbImmPost cond u rn rd imm12 => Sys2Proof.Machine.execStrbImmPost cond u rn rd imm12 s
  | .strbtImm cond u rn rd imm12 => Sys2Proof.Machine.execStrbtImm cond u rn rd imm12 s
  | .strbRegPre cond u w rn rd shiftImm shift rm => Sys2Proof.Machine.execStrbRegPre cond u w rn rd shiftImm shift rm s
  | .strbRegPost cond u rn rd shiftImm shift rm => Sys2Proof.Machine.execStrbRegPost cond u rn rd shiftImm shift rm s
  | .strbtReg cond u rn rd shiftImm shift rm => Sys2Proof.Machine.execStrbtReg cond u rn rd shiftImm shift rm s
  | .ldrbImmPre cond u w rn rd imm12 => Sys2Proof.Machine.execLdrbImmPre cond u w rn rd imm12 s
  | .ldrbImmPost cond u rn rd imm12 => Sys2Proof.Machine.execLdrbImmPost cond u rn rd imm12 s
  | .ldrbtImm cond u rn rd imm12 => Sys2Proof.Machine.execLdrbtImm cond u rn rd imm12 s
  | .ldrbRegPre cond u w rn rd shiftImm shift rm => Sys2Proof.Machine.execLdrbRegPre cond u w rn rd shiftImm shift rm s
  | .ldrbRegPost cond u rn rd shiftImm shift rm => Sys2Proof.Machine.execLdrbRegPost cond u rn rd shiftImm shift rm s
  | .ldrbtReg cond u rn rd shiftImm shift rm => Sys2Proof.Machine.execLdrbtReg cond u rn rd shiftImm shift rm s
  | .stm cond p u w rn list => Sys2Proof.Machine.execStm cond p u w rn list s
  | .ldm cond p u w rn list => Sys2Proof.Machine.execLdm cond p u w rn list s
  | .stmS cond p u w rn list => Sys2Proof.Machine.execStmS cond p u w rn list s
  | .ldmS cond p u w rn list => Sys2Proof.Machine.execLdmS cond p u w rn list s
  | .b cond offset24 => Sys2Proof.Machine.execB cond offset24 s
  | .bl cond offset24 => Sys2Proof.Machine.execBl cond offset24 s
  | .swi cond comment24 => Sys2Proof.Machine.execSwi cond comment24 s
  | .ldcStc cond p u n w l rn crd cpNum offset8 => Sys2Proof.Machine.execLdcStc cond p u n w l rn crd cpNum offset8 s
  | .cdp cond op1 crn crd cpNum op2 crm => Sys2Proof.Machine.execCdp cond op1 crn crd cpNum op2 crm s
  | .mrcMcr cond op1 l crn rd cpNum op2 crm => Sys2Proof.Machine.execMrcMcr cond op1 l crn rd cpNum op2 crm s
  | .undefMul00001 w => Sys2Proof.Machine.execUndefMul00001 w s
  | .undefMul00011 w => Sys2Proof.Machine.execUndefMul00011 w s
  | .undefSwpX1 w => Sys2Proof.Machine.execUndefSwpX1 w s
  | .undefSwp10 w => Sys2Proof.Machine.execUndefSwp10 w s
  | .undefLdrdStrd w => Sys2Proof.Machine.execUndefLdrdStrd w s
  | .undefMiscBx00 w => Sys2Proof.Machine.execUndefMiscBx00 w s
  | .undefMiscBx10 w => Sys2Proof.Machine.execUndefMiscBx10 w s
  | .undefMiscBx11 w => Sys2Proof.Machine.execUndefMiscBx11 w s
  | .undefMisc01xx w => Sys2Proof.Machine.execUndefMisc01xx w s
  | .undefMisc001x w => Sys2Proof.Machine.execUndefMisc001x w s
  | .undefMisc1xx0 w => Sys2Proof.Machine.execUndefMisc1xx0 w s
  | .undefMovStatus w => Sys2Proof.Machine.execUndefMovStatus w s
  | .undefMedia w => Sys2Proof.Machine.execUndefMedia w s
  | .tLslImm offset5 rs rd => Sys2Proof.Machine.execTLslImm offset5 rs rd s
  | .tLsrImm offset5 rs rd => Sys2Proof.Machine.execTLsrImm offset5 rs rd s
  | .tAsrImm offset5 rs rd => Sys2Proof.Machine.execTAsrImm offset5 rs rd s
  | .tAddReg rn rs rd => Sys2Proof.Machine.execTAddReg rn rs rd s
  | .tSubReg rn rs rd => Sys2Proof.Machine.execTSubReg rn rs rd s
  | .tAddImm3 offset3 rs rd => Sys2Proof.Machine.execTAddImm3 offset3 rs rd s
  | .tSubImm3 offset3 rs rd => Sys2Proof.Machine.execTSubImm3 offset3 rs rd s
  | .tMovImm8 rd offset8 => Sys2Proof.Machine.execTMovImm8 rd offset8 s
  | .tCmpImm8 rd offset8 => Sys2Proof.Machine.execTCmpImm8 rd offset8 s
  | .tAddImm8 rd offset8 => Sys2Proof.Machine.execTAddImm8 rd offset8 s
  | .tSubImm8 rd offset8 => Sys2Proof.Machine.execTSubImm8 rd offset8 s
  | .tAnd rs rd => Sys2Proof.Machine.execTAnd rs rd s
  | .tEor rs rd => Sys2Proof.Machine.execTEor rs rd s
  | .tLslReg rs rd => Sys2Proof.Machine.execTLslReg rs rd s
  | .tLsrReg rs rd => Sys2Proof.Machine.execTLsrReg rs rd s
  | .tAsrReg rs rd => Sys2Proof.Machine.execTAsrReg rs rd s
  | .tAdc rs rd => Sys2Proof.Machine.execTAdc rs rd s
  | .tSbc rs rd => Sys2Proof.Machine.execTSbc rs rd s
  | .tRorReg rs rd => Sys2Proof.Machine.execTRorReg rs rd s
  | .tTst rs rd => Sys2Proof.Machine.execTTst rs rd s
  | .tNeg rs rd => Sys2Proof.Machine.execTNeg rs rd s
  | .tCmpReg rs rd => Sys2Proof.Machine.execTCmpReg rs rd s
  | .tCmn rs rd => Sys2Proof.Machine.execTCmn rs rd s
  | .tOrr rs rd => Sys2Proof.Machine.execTOrr rs rd s
  | .tMul rs rd => Sys2Proof.Machine.execTMul rs rd s
  | .tBic rs rd => Sys2Proof.Machine.execTBic rs rd s
  | .tMvn rs rd => Sys2Proof.Machine.execTMvn rs rd s
  | .tAddHi h1 h2 rs rd => Sys2Proof.Machine.execTAddHi h1 h2 rs rd s
  | .tCmpHi h1 h2 rs rd => Sys2Proof.Machine.execTCmpHi h1 h2 rs rd s
  | .tMovHi h1 h2 rs rd => Sys2Proof.Machine.execTMovHi h1 h2 rs rd s
  | .tBx h1 h2 rs rd => Sys2Proof.Machine.execTBx h1 h2 rs rd s
  | .tLdrPc rd word8 => Sys2Proof.Machine.execTLdrPc rd word8 s
  | .tStrReg ro rb rd => Sys2Proof.Machine.execTStrReg ro rb rd s
  | .tStrbReg ro rb rd => Sys2Proof.Machine.execTStrbReg ro rb rd s
  | .tLdrReg ro rb rd => Sys2Proof.Machine.execTLdrReg ro rb rd s
  | .tLdrbReg ro rb rd => Sys2Proof.Machine.execTLdrbReg ro rb rd s
  | .tStrhReg ro rb rd => Sys2Proof.Machine.execTStrhReg ro rb rd s
  | .tLdsbReg ro rb rd => Sys2Proof.Machine.execTLdsbReg ro rb rd s
  | .tLdrhReg ro rb rd => Sys2Proof.Machine.execTLdrhReg ro rb rd s
  | .tLdshReg ro rb rd => Sys2Proof.Machine.execTLdshReg ro rb rd s
  | .tStrImm offset5 rb rd => Sys2Proof.Machine.execTStrImm offset5 rb rd s
  | .tLdrImm offset5 rb rd => Sys2Proof.Machine.execTLdrImm offset5 rb rd s
  | .tStrbImm offset5 rb rd => Sys2Proof.Machine.execTStrbImm offset5 rb rd s
  | .tLdrbImm offset5 rb rd => Sys2Proof.Machine.execTLdrbImm offset5 rb rd s
  | .tStrhImm offset5 rb rd => Sys2Proof.Machine.execTStrhImm offset5 rb rd s
  | .tLdrhImm offset5 rb rd => Sys2Proof.Machine.execTLdrhImm offset5 rb rd s
  | .tStrSp rd word8 => Sys2Proof.Machine.execTStrSp rd word8 s
  | .tLdrSp rd word8 => Sys2Proof.Machine.execTLdrSp rd word8 s
  | .tAddPc rd word8 => Sys2Proof.Machine.execTAddPc rd word8 s
  | .tAddSp rd word8 => Sys2Proof.Machine.execTAddSp rd word8 s
  | .tAddSpImm sf sword7 => Sys2Proof.Machine.execTAddSpImm sf sword7 s
  | .tPush r list => Sys2Proof.Machine.execTPush r list s
  | .tPop r list => Sys2Proof.Machine.execTPop r list s
  | .tStmia rb list => Sys2Proof.Machine.execTStmia rb list s
  | .tLdmia rb list => Sys2Proof.Machine.execTLdmia rb list s
  | .tBcond0xxx cond soffset8 => Sys2Proof.Machine.execTBcond0xxx cond soffset8 s
  | .tBcond10xx cond soffset8 => Sys2Proof.Machine.execTBcond10xx cond soffset8 s
  | .tBcond110x cond soffset8 => Sys2Proof.Machine.execTBcond110x cond soffset8 s
  | .tSwi value8 => Sys2Proof.Machine.execTSwi value8 s
  | .tB offset11 => Sys2Proof.Machine.execTB offset11 s
  | .tBlPrefix offsetHi => Sys2Proof.Machine.execTBlPrefix offsetHi s
  | .tBlSuffix offsetLo => Sys2Proof.Machine.execTBlSuffix offsetLo s
  | .tUndef10110001 w => Sys2Proof.Machine.execTUndef10110001 w s
  | .tUndef1011001x w => Sys2Proof.Machine.execTUndef1011001x w s
  | .tUndef1011011x w => Sys2Proof.Machine.execTUndef1011011x w s
  | .tUndef101110xx w => Sys2Proof.Machine.execTUndef101110xx w s
  | .tUndef1011111x w => Sys2Proof.Machine.execTUndef1011111x w s
  | .tUndef11011110 w => Sys2Proof.Machine.execTUndef11011110 w s
  | .tUndef11101 w => Sys2Proof.Machine.execTUndef11101 w s

end Sys2Proof.Machine
end

