-- ==== Sys2Proof/Machine/Dma.lean ====
section
/-! DEFINITION. DMA transfers (spec/61_timers_dma.md R623, R624, R636..R639) and the FIFO requests that
start them (R653). -/

namespace Sys2Proof.Machine

open Sys2Proof

/-- The channel is in FIFO mode (R636). -/
def DmaChannel.fifoMode (c : Fin 4) (d : DmaChannel) : Bool :=
  DmaTiming.of d.cntH == .special && (c.val == 1 || c.val == 2)

/-- The unit width of a run (R636). -/
def DmaChannel.width (c : Fin 4) (d : DmaChannel) : Width :=
  if d.fifoMode c || d.cntH.getLsbD 10 then .word else .half

/-- The number of units of a run (R636). -/
def DmaChannel.units (c : Fin 4) (d : DmaChannel) : Nat := if d.fifoMode c then 4 else d.icount.toNat

/-- A unit in bytes, as an address step. -/
def Width.step : Width → Word
  | .byte => 1#32
  | .half => 2#32
  | .word => 4#32

/-- An address moved by a two-bit control: 0 and 3 forward, 1 back, 2 not at all (R636). -/
def dmaStep (control : BitVec 2) (w : Width) (a : Word) : Word :=
  match control.toNat with
  | 1 => a - w.step
  | 2 => a
  | _ => a + w.step

/-- Whether a source address is in the GamePak ROM, where it always increments (R636). -/
def gamePakSource (a : Word) : Bool := 0x8 ≤ (a.extractLsb' 24 4).toNat && (a.extractLsb' 24 4).toNat ≤ 0xD

/-- The source after a unit (R636). -/
def DmaChannel.nextSource (d : DmaChannel) (w : Width) : Word :=
  if gamePakSource d.isrc then d.isrc + w.step else dmaStep (d.cntH.extractLsb' 7 2) w d.isrc

/-- The destination after a unit (R636). -/
def DmaChannel.nextDest (d : DmaChannel) (w : Width) (fifo : Bool) : Word :=
  if fifo then d.idst else dmaStep (d.cntH.extractLsb' 5 2) w d.idst

/-- The internal addresses of a channel after a unit; the control bits are those the registers hold then (R636). -/
def Sys.dmaAdvance (c : Fin 4) (w : Width) (fifo : Bool) (y : Sys) : Sys :=
  let d := y.dmaChannel c
  y.setDma c { d with isrc := d.nextSource w, idst := d.nextDest w fifo }

/-- One unit: a read, a write, and the address steps, with the cost of both accesses (R636, R638). -/
def Sys.dmaUnit (c : Fin 4) (kind : Access) (w : Width) (fifo : Bool) (y : Sys) : Except Fault (Sys × Nat) :=
  let src := w.align (y.dmaChannel c).isrc
  let readCost := accessCost y.waitcnt kind w src
  let r := y.memRead w src
  let y := r.2
  let dst := w.align (y.dmaChannel c).idst
  let writeCost := accessCost y.waitcnt kind w dst
  match y.memWrite w dst r.1 with
  | .ok y => .ok (y.dmaAdvance c w fifo, readCost + writeCost)
  | .error f => .error f

/-- The units of a run after the first, all sequential (R638), with the cost so far. -/
def Sys.dmaUnits (c : Fin 4) (w : Width) (fifo : Bool) : Nat → Access → Nat → Sys → Except Fault (Sys × Nat)
  | 0, _, cost, y => .ok (y, cost)
  | n + 1, kind, cost, y =>
      match y.dmaUnit c kind w fifo with
      | .ok (y', unitCost) => Sys.dmaUnits c w fifo n .seq (cost + unitCost) y'
      | .error f => .error f

/-- `Complete(c)` (R637). -/
def Sys.dmaComplete (c : Fin 4) (y : Sys) : Sys :=
  let d := y.dmaChannel c
  if d.cntH.getLsbD 9 then
    let d := { d with icount := d.count c }
    y.setDma c (if d.cntH.extractLsb' 5 2 = 3#2 then { d with idst := d.dad } else d)
  else y.setDma c { d with cntH := d.cntH &&& 0x7FFF#16, armed := false }

/-- `RunDma(c, t)`: the whole run, the time it takes, the interrupt and the completion (R636..R638).  A first run of
channel 3 into the EEPROM window decides the size of an EEPROM without one (20_memory.md R152). -/
def Sys.runDma (c : Fin 4) (y : Sys) : Except Fault Sys :=
  let d := y.dmaChannel c
  let fifo := d.fifoMode c
  match (y.sizeEeprom c d.idst (d.units c)).dmaUnits c (d.width c) fifo (d.units c) .nonseq 0 with
  | .error f => .error f
  | .ok (y, cost) =>
      let y := { y with now := y.now + (cost + 2) }
      let y := if (y.dmaChannel c).cntH.getLsbD 14 then y.requestIrq (8 + c.val) else y
      .ok (y.dmaComplete c)

/-- Whether a trigger with a start timing finds the channel armed for it (R623, R639). -/
def DmaChannel.awaits (timing : DmaTiming) (d : DmaChannel) : Bool := d.armed && DmaTiming.of d.cntH == timing

/-- Run the channel when it is armed with a start timing (R639). -/
def Sys.runDmaIf (timing : DmaTiming) (c : Fin 4) (y : Sys) : Except Fault Sys :=
  if (y.dmaChannel c).awaits timing then y.runDma c else .ok y

/-- The turn of a channel within a trigger: one that awaited the trigger runs if it is armed now (R623). -/
def Sys.dmaTurn (awaited : Bool) (c : Fin 4) (y : Sys) : Except Fault Sys :=
  if awaited && (y.dmaChannel c).armed then y.runDma c else .ok y

/-- `DmaTrigger(k)`: in the order 0, 1, 2, 3, every channel that is armed with start timing `k` at the trigger and still
armed at the moment of its turn (R623).  DEDUCED: the timing is asked at the trigger only, as the rule says "at the
moment of its turn" of `armed` alone (log entry 30). -/
def Sys.dmaTrigger (timing : DmaTiming) (atTrigger : Sys) : Except Fault Sys := do
  let y ← atTrigger.dmaTurn ((atTrigger.dmaChannel 0).awaits timing) 0
  let y ← y.dmaTurn ((atTrigger.dmaChannel 1).awaits timing) 1
  let y ← y.dmaTurn ((atTrigger.dmaChannel 2).awaits timing) 2
  y.dmaTurn ((atTrigger.dmaChannel 3).awaits timing) 3

/-- The I/O address of a FIFO (R653). -/
def FifoName.address : FifoName → Word
  | .a => 0x040000A0#32
  | .b => 0x040000A4#32

/-- Whether a channel serves a FIFO (R653). -/
def DmaChannel.serves (x : FifoName) (d : DmaChannel) : Bool :=
  d.awaits .special && (d.idst &&& 0xFFFFFFFC#32) == x.address

/-- `DmaFifoRequest(X)`: the lowest-numbered of channels 1 and 2 that serves the FIFO (R653). -/
def Sys.fifoRequest (x : FifoName) (y : Sys) : Except Fault Sys :=
  if (y.dmaChannel 1).serves x then y.runDma 1
  else if (y.dmaChannel 2).serves x then y.runDma 2
  else .ok y

/-- The lowest-numbered channel below `c` with an entry at a cycle `<= now` (R639). -/
def Sys.lowerDue (y : Sys) (c : Fin 4) : Option (Fin 4) :=
  if c.val > 0 && y.kindDue (.dma 0) then some 0
  else if c.val > 1 && y.kindDue (.dma 1) then some 1
  else if c.val > 2 && y.kindDue (.dma 2) then some 2
  else none

/-- The handler of `DMA(c)`: every lower-numbered channel with a due entry runs first (R624, R639).  `fuel` bounds how
many at once; when it is spent the handler is left pending, and goes on before any other event (log entry 5). -/
def Sys.dmaEvent (c : Fin 4) : Nat → Sys → Except Fault Sys
  | 0, y => .ok { y with dmaPending := some c }
  | fuel + 1, y =>
      match y.lowerDue c with
      | none => y.runDmaIf .immediate c
      | some c' =>
          match (y.cancel (.dma c')).runDmaIf .immediate c' with
          | .ok y' => y'.dmaEvent c fuel
          | .error f => .error f

end Sys2Proof.Machine
end

