-- ==== Sys2Proof/Machine/Ppu.lean ====
section
/-! DEFINITION. The picture of one line (spec/62_ppu.md §3..§8): text, affine and bitmap backgrounds,
objects, mosaic, windows, composition, colour effects, and `RenderLine` R740.  The line timing stands in
Events.lean. -/

namespace Sys2Proof.Machine

open Sys2Proof

/-! ## Fields and formats -/

/-- The field of `len` bits at `lo` of a register, as a number. -/
def bitsNat (v : BitVec n) (lo len : Nat) : Nat := (v.extractLsb' lo len).toNat

/-- A byte of VRAM as a number; an address past its end reads a free value (R731, log entry 12). -/
def vramByte (m : List Host.Cell) (a : Nat) : Nat :=
  if a < 0x18000 then (Memory.read m (vramKey a)).toNat else (Config.objTexelPastVram a).toNat

/-- A halfword of VRAM. -/
def vramHalf (m : List Host.Cell) (a : Nat) : Half := Memory.read16 m (vramKey a)

/-- `Pal(k)` (R695). -/
def paletteColour (m : List Host.Cell) (k : Nat) : Half := Memory.read16 m (pramKey (2 * k)) &&& 0x7FFF#16

/-- The nibble of a 4 bpp byte for a pixel column (R696). -/
def nibble (b px : Nat) : Nat := if px % 2 = 0 then b % 16 else b / 16

/-- A coordinate snapped to a mosaic block of `size + 1` pixels (R735). -/
def mosaicSnap (size v : Nat) : Nat := v - v % (size + 1)

/-- An opaque sample of a background (R702, R712, R713). -/
structure Sample where
  colour   : Half
  priority : Nat
  deriving DecidableEq, Repr

/-! ## Text backgrounds (R700..R702) -/

/-- The size in pixels of a text background (R700). -/
def textSize (bgcnt : Half) : Nat × Nat :=
  match bitsNat bgcnt 14 2 with
  | 0 => (256, 256)
  | 1 => (512, 256)
  | 2 => (256, 512)
  | _ => (512, 512)

/-- `TextPixel(x, sx, y)` (R702), with the mosaic of R735. -/
def textPixel (m : List Host.Cell) (p : Ppu) (x : Fin 4) (sx0 y0 : Nat) : Option Sample :=
  let cnt := p.bgcnt[x.val]
  let snap := cnt.getLsbD 6
  let sx := if snap then mosaicSnap (bitsNat p.mosaic 0 4) sx0 else sx0
  let y := if snap then mosaicSnap (bitsNat p.mosaic 4 4) y0 else y0
  let size := textSize cnt
  let X := (sx + bitsNat p.bghofs[x.val] 0 9) % size.1
  let Y := (y + bitsNat p.bgvofs[x.val] 0 9) % size.2
  let tx := X / 8
  let ty := Y / 8
  let block := tx / 32 + ty / 32 * (size.1 / 256)
  let entryAddr := bitsNat cnt 8 5 * 0x800 + block * 0x800 + 2 * (ty % 32 * 32 + tx % 32)
  if entryAddr ≥ 0x10000 then none
  else
    let e := vramHalf m entryAddr
    let px := if e.getLsbD 10 then 7 - X % 8 else X % 8
    let py := if e.getLsbD 11 then 7 - Y % 8 else Y % 8
    let base := bitsNat cnt 2 2 * 0x4000
    let deep := cnt.getLsbD 7
    let addr := if deep then base + 64 * bitsNat e 0 10 + 8 * py + px else base + 32 * bitsNat e 0 10 + 4 * py + px / 2
    let i := if addr ≥ 0x10000 then 0 else if deep then vramByte m addr else nibble (vramByte m addr) px
    if i = 0 then none
    else
      some { colour := paletteColour m (if deep then i else 16 * bitsNat e 12 4 + i), priority := bitsNat cnt 0 2 }

/-! ## Affine and bitmap backgrounds (R710..R713) -/

/-- The texture coordinate of a screen column (R711). -/
def textureCoord (r : BitVec 28) (step : Half) (sx : Nat) : Int := (r.toInt + step.toInt * sx) / 256

/-- An affine tiled background (R710, R712). -/
def affinePixel (m : List Host.Cell) (cnt : Half) (g : AffineBg) (sx : Nat) : Option Sample :=
  let side : Nat := 128 * 2 ^ bitsNat cnt 14 2
  let tX := textureCoord g.rx g.pa sx
  let tY := textureCoord g.ry g.pc sx
  let inside := decide (0 ≤ tX) && decide (tX < side) && decide (0 ≤ tY) && decide (tY < side)
  if !inside && !cnt.getLsbD 13 then none
  else
    let u := (tX % side).toNat
    let v := (tY % side).toNat
    let mapAddr := bitsNat cnt 8 5 * 0x800 + v / 8 * (side / 8) + u / 8
    if mapAddr ≥ 0x10000 then none
    else
      let addr := bitsNat cnt 2 2 * 0x4000 + 64 * vramByte m mapAddr + 8 * (v % 8) + u % 8
      if addr ≥ 0x10000 then none
      else
        let i := vramByte m addr
        if i = 0 then none else some { colour := paletteColour m i, priority := bitsNat cnt 0 2 }

/-- A bitmap background of modes 3, 4 and 5 (R713). -/
def bitmapPixel (m : List Host.Cell) (mode : Nat) (p : Ppu) (sx : Nat) : Option Sample :=
  let tX := textureCoord p.bg2.rx p.bg2.pa sx
  let tY := textureCoord p.bg2.ry p.bg2.pc sx
  let width : Nat := if mode = 5 then 160 else 240
  let height : Nat := if mode = 5 then 128 else 160
  let inside := decide (0 ≤ tX) && decide (tX < width) && decide (0 ≤ tY) && decide (tY < height)
  if !inside then none
  else
    let at' := width * tY.toNat + tX.toNat
    let frame := if p.dispcnt.getLsbD 4 then 0xA000 else 0
    let priority := bitsNat p.bgcnt[2] 0 2
    match mode with
    | 3 => some { colour := vramHalf m (2 * at') &&& 0x7FFF#16, priority := priority }
    | 4 =>
        let i := vramByte m (frame + at')
        if i = 0 then none else some { colour := paletteColour m i, priority := priority }
    | _ => some { colour := vramHalf m (frame + 2 * at') &&& 0x7FFF#16, priority := priority }

/-- What a background of a mode is (R720, R722). -/
inductive BgKind where
  | text | affine | bitmap | absent
  deriving DecidableEq, Repr

/-- The background layers of each mode (R720); modes 6 and 7 have none (R722). -/
def bgKind (mode : Nat) (x : Fin 4) : BgKind :=
  match mode, x.val with
  | 0, _ => .text
  | 1, 0 => .text
  | 1, 1 => .text
  | 1, 2 => .affine
  | 2, 2 => .affine
  | 2, 3 => .affine
  | 3, 2 => .bitmap
  | 4, 2 => .bitmap
  | 5, 2 => .bitmap
  | _, _ => .absent

/-- The BG mode of DISPCNT (R680). -/
def Ppu.mode (p : Ppu) : Nat := bitsNat p.dispcnt 0 3

/-- The sample of a background enabled in DISPCNT (R720). -/
def bgPixel (m : List Host.Cell) (p : Ppu) (x : Fin 4) (sx y : Nat) : Option Sample :=
  if !p.dispcnt.getLsbD (8 + x.val) then none
  else
    match bgKind p.mode x with
    | .text => textPixel m p x sx y
    | .affine => affinePixel m p.bgcnt[x.val] (if x.val = 2 then p.bg2 else p.bg3) sx
    | .bitmap => bitmapPixel m p.mode p sx
    | .absent => none

/-! ## Objects (R730..R735) -/

/-- Width and height of an object (R731).  Shape 3 is prohibited and never drawn (R730). -/
def objSize (shape size : Nat) : Nat × Nat :=
  match shape, size with
  | 0, 0 => (8, 8)
  | 0, 1 => (16, 16)
  | 0, 2 => (32, 32)
  | 0, _ => (64, 64)
  | 1, 0 => (16, 8)
  | 1, 1 => (32, 8)
  | 1, 2 => (32, 16)
  | 1, _ => (64, 32)
  | _, 0 => (8, 16)
  | _, 1 => (8, 32)
  | _, 2 => (16, 32)
  | _, _ => (32, 64)

/-- A halfword of OAM. -/
def oamHalf (m : List Host.Cell) (o : Nat) : Half := Memory.read16 m (oamKey o)

/-- An affine parameter of a group as an integer (R730). -/
def objParam (m : List Host.Cell) (g slot : Nat) : Int := (oamHalf m (0x20 * g + slot)).toInt

/-- The colour of texel `(u, v)` of an object, none where transparent (R696, R721, R731). -/
def objTexel (m : List Host.Cell) (p : Ppu) (attr0 attr2 : Half) (w u v : Nat) : Option Half :=
  let deep := attr0.getLsbD 13
  let d := if deep then 2 else 1
  let base := bitsNat attr2 0 10
  let tile := if p.dispcnt.getLsbD 6 then base + v / 8 * (w / 8) * d + u / 8 * d else base + v / 8 * 32 + u / 8 * d
  let tileAddr := 0x10000 + 32 * (tile % 1024)
  if 3 ≤ p.mode ∧ p.mode ≤ 5 ∧ tileAddr < 0x14000 then none
  else
    let i := if deep then vramByte m (tileAddr + 8 * (v % 8) + u % 8)
      else nibble (vramByte m (tileAddr + 4 * (v % 8) + u % 8 / 2)) (u % 8)
    if i = 0 then none
    else some (paletteColour m (if deep then 256 + i else 256 + 16 * bitsNat attr2 12 4 + i))

/-- An opaque texel of an object. -/
structure ObjPixel where
  colour   : Half
  priority : Nat
  mode     : Nat
  deriving DecidableEq, Repr

/-- The opaque texel of object `k` at a screen pixel (R730, R732, R735). -/
def objPixel (m : List Host.Cell) (p : Ppu) (k sx0 y0 : Nat) : Option ObjPixel :=
  let attr0 := oamHalf m (8 * k)
  let attr1 := oamHalf m (8 * k + 2)
  let attr2 := oamHalf m (8 * k + 4)
  let affine := attr0.getLsbD 8
  let mode := bitsNat attr0 10 2
  let shape := bitsNat attr0 14 2
  if (!affine && attr0.getLsbD 9) || mode == 3 || shape == 3 then none
  else
    let size := objSize shape (bitsNat attr1 14 2)
    let w := size.1
    let h := size.2
    let scale := if affine && attr0.getLsbD 9 then 2 else 1
    let bw := w * scale
    let bh := h * scale
    let top := bitsNat attr0 0 8
    let left := bitsNat attr1 0 9
    let snap := attr0.getLsbD 12
    let sx := if snap then mosaicSnap (bitsNat p.mosaic 8 4) sx0 else sx0
    let y := if snap then mosaicSnap (bitsNat p.mosaic 12 4) y0 else y0
    let bx := (sx + 512 - left) % 512
    let by' := (y + 256 - top) % 256
    if (y0 + 256 - top) % 256 < bh ∧ bx < bw ∧ by' < bh then
      let texel : Option Half :=
        if affine then
          let g := bitsNat attr1 9 5
          let dx : Int := (bx : Int) - (bw / 2 : Nat)
          let dy : Int := (by' : Int) - (bh / 2 : Nat)
          let u : Int := (objParam m g 0x06 * dx + objParam m g 0x0E * dy) / 256 + (w / 2 : Nat)
          let v : Int := (objParam m g 0x16 * dx + objParam m g 0x1E * dy) / 256 + (h / 2 : Nat)
          if 0 ≤ u ∧ u < w ∧ 0 ≤ v ∧ v < h then objTexel m p attr0 attr2 w u.toNat v.toNat else none
        else
          let u := if attr1.getLsbD 12 then w - 1 - bx else bx
          let v := if attr1.getLsbD 13 then h - 1 - by' else by'
          objTexel m p attr0 attr2 w u v
      texel.map (fun c => { colour := c, priority := bitsNat attr2 10 2, mode := mode })
    else none

/-- The opaque texels at a screen pixel of the objects `k, k + 1, …`, `n` of them, in OAM order. -/
def objPixels (m : List Host.Cell) (p : Ppu) (sx y k : Nat) : Nat → List ObjPixel
  | 0 => []
  | n + 1 =>
      match objPixel m p k sx y with
      | some o => o :: objPixels m p sx y (k + 1) n
      | none => objPixels m p sx y (k + 1) n

/-- The object layer: the least `(priority, k)` among the objects of modes 0 and 1 (R733).  The list is in OAM order,
so the first of the least priority wins. -/
def objLayer : List ObjPixel → Option ObjPixel
  | [] => none
  | o :: rest =>
      if o.mode ≤ 1 then
        match objLayer rest with
        | some o' => if o'.priority < o.priority then some o' else some o
        | none => some o
      else objLayer rest

/-- Whether an object of mode 2 marks the pixel as inside the OBJ window (R733). -/
def inObjWindow (l : List ObjPixel) : Bool := l.any (fun o => o.mode == 2)

/-! ## Windows (R736) -/

/-- The test `lo <= v < hi'` with `hi' = min(hi, limit)`, wrapping when `lo > hi'` (R736). -/
def inSpan (lo hi limit v : Nat) : Bool :=
  let hi' := min hi limit
  if lo > hi' then decide (v ≥ lo) || decide (v < hi') else decide (lo ≤ v) && decide (v < hi')

/-- Whether a pixel is inside a window (R736). -/
def inWindow (winh winv : Half) (sx y : Nat) : Bool :=
  inSpan (bitsNat winh 8 8) (bitsNat winh 0 8) 240 sx && inSpan (bitsNat winv 8 8) (bitsNat winv 0 8) 160 y

/-- The layer set at a pixel (R736). -/
def layerSet (p : Ppu) (objWin : Bool) (sx y : Nat) : BitVec 6 :=
  let win0 := p.dispcnt.getLsbD 13
  let win1 := p.dispcnt.getLsbD 14
  let winObj := p.dispcnt.getLsbD 15
  if !win0 && !win1 && !winObj then 0x3F#6
  else if win0 && inWindow p.win0h p.win0v sx y then p.winin.extractLsb' 0 6
  else if win1 && inWindow p.win1h p.win1v sx y then p.winin.extractLsb' 8 6
  else if winObj && objWin then p.winout.extractLsb' 8 6
  else p.winout.extractLsb' 0 6

/-! ## Composition and colour effects (R737, R738) -/

/-- A candidate of the composition: its layer number, 0..3 for the backgrounds, 4 for the objects and 5 for the
backdrop. -/
structure Layer where
  number : Nat
  colour : Half
  semi   : Bool
  deriving DecidableEq, Repr

/-- The candidates of one priority class, in order: the object layer, then BG0 to BG3 (R737). -/
def candidatesAt (prio : Nat) (obj : Option ObjPixel) (bgs : List (Nat × Option Sample)) : List Layer :=
  (match obj with
    | some o => if o.priority = prio then [{ number := 4, colour := o.colour, semi := o.mode == 1 }] else []
    | none => []) ++
  bgs.filterMap (fun b => b.2.bind (fun s =>
    if s.priority = prio then some { number := b.1, colour := s.colour, semi := false } else none))

/-- The candidates in order, the backdrop last (R737). -/
def candidates (obj : Option ObjPixel) (bgs : List (Nat × Option Sample)) (backdrop : Half) : List Layer :=
  candidatesAt 0 obj bgs ++ candidatesAt 1 obj bgs ++ candidatesAt 2 obj bgs ++ candidatesAt 3 obj bgs ++
    [{ number := 5, colour := backdrop, semi := false }]

/-- A colour from its three channels as numbers. -/
def mkColour (r g b : Nat) : Half := BitVec.ofNat 16 (r + 32 * g + 1024 * b)

/-- A channel-wise operation on one colour. -/
def mapColour (f : Nat → Nat) (a : Half) : Half := mkColour (f (bitsNat a 0 5)) (f (bitsNat a 5 5)) (f (bitsNat a 10 5))

/-- `Alpha(a, b)` on a channel (R738). -/
def alphaChannel (eva evb a b : Nat) : Nat := min 31 ((a * eva + b * evb) / 16)

/-- `Alpha` on colours (R738). -/
def alphaBlend (p : Ppu) (a b : Half) : Half :=
  let eva := min (bitsNat p.bldalpha 0 5) 16
  let evb := min (bitsNat p.bldalpha 8 5) 16
  mkColour (alphaChannel eva evb (bitsNat a 0 5) (bitsNat b 0 5)) (alphaChannel eva evb (bitsNat a 5 5) (bitsNat b 5 5))
    (alphaChannel eva evb (bitsNat a 10 5) (bitsNat b 10 5))

/-- `EVY'` (R738). -/
def Ppu.evy (p : Ppu) : Nat := min (bitsNat p.bldy 0 5) 16

/-- `Bright` (R738). -/
def brighten (p : Ppu) (a : Half) : Half := mapColour (fun c => c + (31 - c) * p.evy / 16) a

/-- `Dark` (R738). -/
def darken (p : Ppu) (a : Half) : Half := mapColour (fun c => c - c * p.evy / 16) a

/-- The colour special effects on the two uppermost layers (R738). -/
def colourEffect (p : Ppu) (top below : Layer) : Half :=
  let second := p.bldcnt.getLsbD (8 + below.number)
  if top.semi && second then alphaBlend p top.colour below.colour
  else if p.bldcnt.getLsbD top.number then
    match bitsNat p.bldcnt 6 2 with
    | 0 => top.colour
    | 1 => if second then alphaBlend p top.colour below.colour else top.colour
    | 2 => brighten p top.colour
    | _ => darken p top.colour
  else top.colour

/-- The backgrounds of the layer set at a pixel (R737). -/
def bgSamples (m : List Host.Cell) (p : Ppu) (set : BitVec 6) (sx y : Nat) : List (Nat × Option Sample) :=
  [(0, if set.getLsbD 0 then bgPixel m p 0 sx y else none), (1, if set.getLsbD 1 then bgPixel m p 1 sx y else none),
   (2, if set.getLsbD 2 then bgPixel m p 2 sx y else none), (3, if set.getLsbD 3 then bgPixel m p 3 sx y else none)]

/-- The colour of a screen pixel (R733, R736..R738, R740). -/
def pixelColour (m : List Host.Cell) (p : Ppu) (y sx : Nat) : Half :=
  if p.dispcnt.getLsbD 7 then 0x7FFF#16
  else
    let objs := objPixels m p sx y 0 128
    let set := layerSet p (inObjWindow objs) sx y
    let obj := if p.dispcnt.getLsbD 12 && set.getLsbD 4 then objLayer objs else none
    let backdrop : Layer := { number := 5, colour := paletteColour m 0, semi := false }
    match candidates obj (bgSamples m p set sx y) backdrop.colour with
    | [] => backdrop.colour
    | [top] => if set.getLsbD 5 then colourEffect p top backdrop else top.colour
    | top :: below :: _ => if set.getLsbD 5 then colourEffect p top below else top.colour

/-- `RenderLine(y)`: the 240 entries of the line (R740). -/
def Sys.renderLine (line : Nat) (h : line < 160) (y : Sys) : Sys :=
  { y with fb := y.fb.set line (Vector.ofFn (fun sx : Fin 240 => pixelColour y.mem y.ppu line sx.val)) }

end Sys2Proof.Machine
end

