-- ==== Sys2Proof/Machine/Events.lean ====
section
/-! DEFINITION. The handlers of the scheduler's events: timer overflow and cascade (spec/61_timers_dma.md
R614, R615), the FIFO tick R652, the line events of the PPU (62_ppu.md R673, R674), and `DispatchDue` R605. -/

namespace Sys2Proof.Machine

open Sys2Proof

/-! ## Timers and FIFOs -/

/-- Pop the oldest byte into the current sample (61_timers_dma.md R652). -/
def Fifo.pop (q : Fifo) : Fifo :=
  match q.queue with
  | [] => q
  | b :: rest => { queue := rest, sample := b }

/-- `FifoTick(X, t)` (61_timers_dma.md R652). -/
def Sys.fifoTick (x : FifoName) (y : Sys) : Except Fault Sys :=
  let y := y.setFifo x (y.fifo x).pop
  if (y.fifo x).queue.length ≤ 16 then y.fifoRequest x else .ok y

/-- Step (c) of an overflow: the FIFOs that timer `i` drives (61_timers_dma.md R614). -/
def Sys.tickFifos (i : Fin 4) (y : Sys) : Except Fault Sys :=
  if 2 ≤ i.val then .ok y
  else do
    let y ← if y.soundcntH.getLsbD 10 == (i.val == 1) then y.fifoTick .a else .ok y
    if y.soundcntH.getLsbD 14 == (i.val == 1) then y.fifoTick .b else .ok y

/-- Steps (a) and (b) of an overflow at nominal time `t`: reload and interrupt (61_timers_dma.md R614). -/
def Sys.timerReload (i : Fin 4) (t : Nat) (y : Sys) : Sys :=
  let tm := { y.timer i with counter0 := (y.timer i).reload.zeroExtend 17, start := t }
  let y := y.setTimer i tm
  let y := if tm.freeCounting i then y.schedule tm.overflowAt (.timer i) else y
  if tm.control.getLsbD 6 then y.requestIrq (3 + i.val) else y

/-- `TimerOverflow(i, t)` and the cascade it starts (61_timers_dma.md R614, R615).  `fuel` is at least the number of
timers after `i`. -/
def Sys.timerOverflow (t : Nat) : Nat → Fin 4 → Sys → Except Fault Sys
  | fuel, i, y =>
      match (y.timerReload i t).tickFifos i with
      | .error f => .error f
      | .ok y =>
          match fuel with
          | 0 => .ok y
          | fuel + 1 =>
              if i.val < 3 then
                let j := index4 (i.val + 1)
                let tm := y.timer j
                if tm.enabled && tm.control.getLsbD 2 then
                  let y := y.setTimer j { tm with counter0 := tm.counter0 + 1#17 }
                  if tm.counter0 + 1#17 = 0x10000#17 then Sys.timerOverflow t fuel j y else .ok y
                else .ok y
              else .ok y

/-! ## Line events of the PPU -/

/-- Set or clear a read-only bit of DISPSTAT. -/
def Ppu.setStatus (mask : Half) (b : Bool) (p : Ppu) : Ppu :=
  { p with dispstat := if b then p.dispstat ||| mask else p.dispstat &&& ~~~mask }

/-- An affine background after a visible line (62_ppu.md R674). -/
def AffineBg.advance (g : AffineBg) : AffineBg :=
  { g with rx := g.rx + g.pb.signExtend 28, ry := g.ry + g.pd.signExtend 28 }

/-- An affine background reloaded from its registers (62_ppu.md R674). -/
def AffineBg.latch (g : AffineBg) : AffineBg := { g with rx := g.x, ry := g.y }

/-- The line is rendered if it is visible (62_ppu.md R673). -/
def Sys.renderVisible (y : Sys) : Sys := if h : y.ppu.vcount.val < 160 then y.renderLine y.ppu.vcount.val h else y

/-- H-Blank starts: its flag, its phase and its interrupt (62_ppu.md R673). -/
def Sys.enterHblank (y : Sys) : Sys :=
  let z : Sys := { y with ppu := { y.ppu.setStatus 0x0002#16 true with phase := .hblank } }
  if y.ppu.dispstat.getLsbD 4 then z.requestIrq 1 else z

/-- The DMA channels a visible line starts (62_ppu.md R673). -/
def Sys.hblankDma (y : Sys) : Except Fault Sys := if y.ppu.vcount.val < 160 then y.dmaTrigger .hblank else .ok y

/-- `HDrawEnd(t)` (62_ppu.md R673). -/
def Sys.hdrawEnd (t : Nat) (y : Sys) : Except Fault Sys :=
  match y.renderVisible.enterHblank.hblankDma with
  | .ok y => .ok (y.schedule (t + Config.hblankCycles) .lineEnd)
  | .error f => .error f

/-- The line after a line (62_ppu.md R674). -/
def nextLine (v : Fin 228) : Fin 228 := ⟨(v.val + 1) % 228, Nat.mod_lt _ (by decide)⟩

/-- The start of a line: HDraw, the affine advance of a visible line, the next VCOUNT (62_ppu.md R674). -/
def Ppu.startLine (p : Ppu) : Ppu :=
  let p := { p.setStatus 0x0002#16 false with phase := .hdraw }
  let p := if p.vcount.val < 160 then { p with bg2 := p.bg2.advance, bg3 := p.bg3.advance } else p
  { p with vcount := nextLine p.vcount }

/-- V-Blank starts: its flag and its interrupt (62_ppu.md R674). -/
def Sys.enterVblank (y : Sys) : Sys :=
  let z : Sys := { y with ppu := y.ppu.setStatus 0x0001#16 true }
  if y.ppu.dispstat.getLsbD 3 then z.requestIrq 0 else z

/-- The reference points reloaded (62_ppu.md R674). -/
def Sys.latchAffine (y : Sys) : Sys := { y with ppu := { y.ppu with bg2 := y.ppu.bg2.latch, bg3 := y.ppu.bg3.latch } }

/-- V-Blank start, at line 160 (62_ppu.md R674). -/
def Sys.vblankStart (y : Sys) : Except Fault Sys :=
  match y.enterVblank.dmaTrigger .vblank with
  | .ok y => .ok y.latchAffine
  | .error f => .error f

/-- The start of a line (62_ppu.md R674). -/
def Sys.startLine (y : Sys) : Sys := { y with ppu := y.ppu.startLine }

/-- The V-Blank flag cleared at line 227 (62_ppu.md R674). -/
def Sys.endVblank (y : Sys) : Sys :=
  if y.ppu.vcount.val = 227 then { y with ppu := y.ppu.setStatus 0x0001#16 false } else y

/-- The match flag and its interrupt (62_ppu.md R674). -/
def Sys.vcountMatch (y : Sys) : Sys :=
  let hit := bitsNat y.ppu.dispstat 8 8 == y.ppu.vcount.val
  let z : Sys := { y with ppu := y.ppu.setStatus 0x0004#16 hit }
  if hit && y.ppu.dispstat.getLsbD 5 then z.requestIrq 2 else z

/-- What happens at the start of the next line, V-Blank start at line 160 among it (62_ppu.md R674). -/
def Sys.beginLine (y : Sys) : Except Fault Sys := if y.ppu.vcount.val = 160 then y.vblankStart else .ok y

/-- `LineEnd(t)` (62_ppu.md R674). -/
def Sys.lineEnd (t : Nat) (y : Sys) : Except Fault Sys :=
  match y.startLine.beginLine with
  | .error f => .error f
  | .ok y => .ok (y.endVblank.vcountMatch.schedule (t + Config.hdrawCycles) .hdrawEnd)

/-! ## Dispatch (61_timers_dma.md R605) -/

/-- The handler of an event, at its nominal time. -/
def Sys.handleEvent (e : Event) (y : Sys) : Except Fault Sys :=
  match e.kind with
  | .hdrawEnd => y.hdrawEnd e.cycle
  | .lineEnd => y.lineEnd e.cycle
  | .timer i => y.timerOverflow e.cycle 3 i
  | .dma c => y.dmaEvent c Config.dispatchBudget
  | .audioFifo x => y.fifoRequest x
  | .apuSample => .ok y
  | .romPrefetch => .ok y

/-- One turn of the dispatch: a pending DMA handler goes on, or the least entry is removed and its handler run if it is
due; none when nothing is left. -/
def Sys.dispatchOne (y : Sys) : Option (Except Fault Sys) :=
  match y.dmaPending with
  | some c => some (({ y with dmaPending := none } : Sys).dmaEvent c Config.dispatchBudget)
  | none =>
      match y.events with
      | [] => none
      | e :: rest => if e.cycle ≤ y.now then some (({ y with events := rest } : Sys).handleEvent e) else none

/-- `DispatchDue()`: turns while anything is left; at most `fuel` of them (log entry 5). -/
def Sys.dispatchDue : Nat → Sys → Except Fault Sys
  | 0, y => .ok y
  | fuel + 1, y =>
      match y.dispatchOne with
      | none => .ok y
      | some (.ok y') => y'.dispatchDue fuel
      | some (.error f) => .error f

/-- Whether a turn of the dispatch is left: a pending DMA handler, or a due entry. -/
def Sys.dispatchLeft (y : Sys) : Bool := y.dmaPending.isSome || y.eventDue

end Sys2Proof.Machine
end

