-- ==== Sys2Proof/Machine/Timing.lean ====
section
/-! DEFINITION. What the fetch of a step needs to know of the instruction: its condition (spec/30_encoding.md
R206) and whether it is a store (20_memory.md R124). -/

namespace Sys2Proof.Machine

open Sys2Proof

/-- The condition an instruction is tested against; THUMB instructions outside format 16 run always (30_encoding.md
R206). -/
def instrCond (i : Instr) : Cond :=
  match i with
  | .andShi cond _ _ _ _ _ _ => cond
  | .andShr cond _ _ _ _ _ _ => cond
  | .andImm cond _ _ _ _ _ => cond
  | .eorShi cond _ _ _ _ _ _ => cond
  | .eorShr cond _ _ _ _ _ _ => cond
  | .eorImm cond _ _ _ _ _ => cond
  | .subShi cond _ _ _ _ _ _ => cond
  | .subShr cond _ _ _ _ _ _ => cond
  | .subImm cond _ _ _ _ _ => cond
  | .rsbShi cond _ _ _ _ _ _ => cond
  | .rsbShr cond _ _ _ _ _ _ => cond
  | .rsbImm cond _ _ _ _ _ => cond
  | .addShi cond _ _ _ _ _ _ => cond
  | .addShr cond _ _ _ _ _ _ => cond
  | .addImm cond _ _ _ _ _ => cond
  | .adcShi cond _ _ _ _ _ _ => cond
  | .adcShr cond _ _ _ _ _ _ => cond
  | .adcImm cond _ _ _ _ _ => cond
  | .sbcShi cond _ _ _ _ _ _ => cond
  | .sbcShr cond _ _ _ _ _ _ => cond
  | .sbcImm cond _ _ _ _ _ => cond
  | .rscShi cond _ _ _ _ _ _ => cond
  | .rscShr cond _ _ _ _ _ _ => cond
  | .rscImm cond _ _ _ _ _ => cond
  | .tstShi cond _ _ _ _ => cond
  | .tstShr cond _ _ _ _ => cond
  | .tstImm cond _ _ _ => cond
  | .teqShi cond _ _ _ _ => cond
  | .teqShr cond _ _ _ _ => cond
  | .teqImm cond _ _ _ => cond
  | .cmpShi cond _ _ _ _ => cond
  | .cmpShr cond _ _ _ _ => cond
  | .cmpImm cond _ _ _ => cond
  | .cmnShi cond _ _ _ _ => cond
  | .cmnShr cond _ _ _ _ => cond
  | .cmnImm cond _ _ _ => cond
  | .orrShi cond _ _ _ _ _ _ => cond
  | .orrShr cond _ _ _ _ _ _ => cond
  | .orrImm cond _ _ _ _ _ => cond
  | .movShi cond _ _ _ _ _ => cond
  | .movShr cond _ _ _ _ _ => cond
  | .movImm cond _ _ _ _ => cond
  | .bicShi cond _ _ _ _ _ _ => cond
  | .bicShr cond _ _ _ _ _ _ => cond
  | .bicImm cond _ _ _ _ _ => cond
  | .mvnShi cond _ _ _ _ _ => cond
  | .mvnShr cond _ _ _ _ _ => cond
  | .mvnImm cond _ _ _ _ => cond
  | .mul cond _ _ _ _ => cond
  | .mla cond _ _ _ _ _ => cond
  | .umull cond _ _ _ _ _ => cond
  | .umlal cond _ _ _ _ _ => cond
  | .smull cond _ _ _ _ _ => cond
  | .smlal cond _ _ _ _ _ => cond
  | .swp cond _ _ _ => cond
  | .swpb cond _ _ _ => cond
  | .mrs cond _ _ => cond
  | .msrReg cond _ _ _ => cond
  | .msrImm cond _ _ _ _ => cond
  | .bx cond _ => cond
  | .strhReg cond _ _ _ _ _ _ => cond
  | .strhImm cond _ _ _ _ _ _ _ => cond
  | .ldrhReg cond _ _ _ _ _ _ => cond
  | .ldrhImm cond _ _ _ _ _ _ _ => cond
  | .ldrsbReg cond _ _ _ _ _ _ => cond
  | .ldrsbImm cond _ _ _ _ _ _ _ => cond
  | .ldrshReg cond _ _ _ _ _ _ => cond
  | .ldrshImm cond _ _ _ _ _ _ _ => cond
  | .strImmPre cond _ _ _ _ _ => cond
  | .strImmPost cond _ _ _ _ => cond
  | .strtImm cond _ _ _ _ => cond
  | .strRegPre cond _ _ _ _ _ _ _ => cond
  | .strRegPost cond _ _ _ _ _ _ => cond
  | .strtReg cond _ _ _ _ _ _ => cond
  | .ldrImmPre cond _ _ _ _ _ => cond
  | .ldrImmPost cond _ _ _ _ => cond
  | .ldrtImm cond _ _ _ _ => cond
  | .ldrRegPre cond _ _ _ _ _ _ _ => cond
  | .ldrRegPost cond _ _ _ _ _ _ => cond
  | .ldrtReg cond _ _ _ _ _ _ => cond
  | .strbImmPre cond _ _ _ _ _ => cond
  | .strbImmPost cond _ _ _ _ => cond
  | .strbtImm cond _ _ _ _ => cond
  | .strbRegPre cond _ _ _ _ _ _ _ => cond
  | .strbRegPost cond _ _ _ _ _ _ => cond
  | .strbtReg cond _ _ _ _ _ _ => cond
  | .ldrbImmPre cond _ _ _ _ _ => cond
  | .ldrbImmPost cond _ _ _ _ => cond
  | .ldrbtImm cond _ _ _ _ => cond
  | .ldrbRegPre cond _ _ _ _ _ _ _ => cond
  | .ldrbRegPost cond _ _ _ _ _ _ => cond
  | .ldrbtReg cond _ _ _ _ _ _ => cond
  | .stm cond _ _ _ _ _ => cond
  | .ldm cond _ _ _ _ _ => cond
  | .stmS cond _ _ _ _ _ => cond
  | .ldmS cond _ _ _ _ _ => cond
  | .b cond _ => cond
  | .bl cond _ => cond
  | .swi cond _ => cond
  | .ldcStc cond _ _ _ _ _ _ _ _ _ => cond
  | .cdp cond _ _ _ _ _ _ => cond
  | .mrcMcr cond _ _ _ _ _ _ _ => cond
  | .undefMul00001 w => wordCond w
  | .undefMul00011 w => wordCond w
  | .undefSwpX1 w => wordCond w
  | .undefSwp10 w => wordCond w
  | .undefLdrdStrd w => wordCond w
  | .undefMiscBx00 w => wordCond w
  | .undefMiscBx10 w => wordCond w
  | .undefMiscBx11 w => wordCond w
  | .undefMisc01xx w => wordCond w
  | .undefMisc001x w => wordCond w
  | .undefMisc1xx0 w => wordCond w
  | .undefMovStatus w => wordCond w
  | .undefMedia w => wordCond w
  | .tLslImm _ _ _ => .al
  | .tLsrImm _ _ _ => .al
  | .tAsrImm _ _ _ => .al
  | .tAddReg _ _ _ => .al
  | .tSubReg _ _ _ => .al
  | .tAddImm3 _ _ _ => .al
  | .tSubImm3 _ _ _ => .al
  | .tMovImm8 _ _ => .al
  | .tCmpImm8 _ _ => .al
  | .tAddImm8 _ _ => .al
  | .tSubImm8 _ _ => .al
  | .tAnd _ _ => .al
  | .tEor _ _ => .al
  | .tLslReg _ _ => .al
  | .tLsrReg _ _ => .al
  | .tAsrReg _ _ => .al
  | .tAdc _ _ => .al
  | .tSbc _ _ => .al
  | .tRorReg _ _ => .al
  | .tTst _ _ => .al
  | .tNeg _ _ => .al
  | .tCmpReg _ _ => .al
  | .tCmn _ _ => .al
  | .tOrr _ _ => .al
  | .tMul _ _ => .al
  | .tBic _ _ => .al
  | .tMvn _ _ => .al
  | .tAddHi _ _ _ _ => .al
  | .tCmpHi _ _ _ _ => .al
  | .tMovHi _ _ _ _ => .al
  | .tBx _ _ _ _ => .al
  | .tLdrPc _ _ => .al
  | .tStrReg _ _ _ => .al
  | .tStrbReg _ _ _ => .al
  | .tLdrReg _ _ _ => .al
  | .tLdrbReg _ _ _ => .al
  | .tStrhReg _ _ _ => .al
  | .tLdsbReg _ _ _ => .al
  | .tLdrhReg _ _ _ => .al
  | .tLdshReg _ _ _ => .al
  | .tStrImm _ _ _ => .al
  | .tLdrImm _ _ _ => .al
  | .tStrbImm _ _ _ => .al
  | .tLdrbImm _ _ _ => .al
  | .tStrhImm _ _ _ => .al
  | .tLdrhImm _ _ _ => .al
  | .tStrSp _ _ => .al
  | .tLdrSp _ _ => .al
  | .tAddPc _ _ => .al
  | .tAddSp _ _ => .al
  | .tAddSpImm _ _ => .al
  | .tPush _ _ => .al
  | .tPop _ _ => .al
  | .tStmia _ _ => .al
  | .tLdmia _ _ => .al
  | .tBcond0xxx cond _ => cond
  | .tBcond10xx cond _ => cond
  | .tBcond110x cond _ => cond
  | .tSwi _ => .al
  | .tB _ => .al
  | .tBlPrefix _ => .al
  | .tBlSuffix _ => .al
  | .tUndef10110001 _ => .al
  | .tUndef1011001x _ => .al
  | .tUndef1011011x _ => .al
  | .tUndef101110xx _ => .al
  | .tUndef1011111x _ => .al
  | .tUndef11011110 _ => .al
  | .tUndef11101 _ => .al

/-- Whether an instruction is a store: STR, STRB, STRH, STM in ARM, a store, PUSH or STMIA in THUMB (20_memory.md
R124); the T forms are stores like their plain forms (43_arm_loadstore.md R361). -/
def instrIsStore (i : Instr) : Bool :=
  match i with
  | .andShi _ _ _ _ _ _ _ => false
  | .andShr _ _ _ _ _ _ _ => false
  | .andImm _ _ _ _ _ _ => false
  | .eorShi _ _ _ _ _ _ _ => false
  | .eorShr _ _ _ _ _ _ _ => false
  | .eorImm _ _ _ _ _ _ => false
  | .subShi _ _ _ _ _ _ _ => false
  | .subShr _ _ _ _ _ _ _ => false
  | .subImm _ _ _ _ _ _ => false
  | .rsbShi _ _ _ _ _ _ _ => false
  | .rsbShr _ _ _ _ _ _ _ => false
  | .rsbImm _ _ _ _ _ _ => false
  | .addShi _ _ _ _ _ _ _ => false
  | .addShr _ _ _ _ _ _ _ => false
  | .addImm _ _ _ _ _ _ => false
  | .adcShi _ _ _ _ _ _ _ => false
  | .adcShr _ _ _ _ _ _ _ => false
  | .adcImm _ _ _ _ _ _ => false
  | .sbcShi _ _ _ _ _ _ _ => false
  | .sbcShr _ _ _ _ _ _ _ => false
  | .sbcImm _ _ _ _ _ _ => false
  | .rscShi _ _ _ _ _ _ _ => false
  | .rscShr _ _ _ _ _ _ _ => false
  | .rscImm _ _ _ _ _ _ => false
  | .tstShi _ _ _ _ _ => false
  | .tstShr _ _ _ _ _ => false
  | .tstImm _ _ _ _ => false
  | .teqShi _ _ _ _ _ => false
  | .teqShr _ _ _ _ _ => false
  | .teqImm _ _ _ _ => false
  | .cmpShi _ _ _ _ _ => false
  | .cmpShr _ _ _ _ _ => false
  | .cmpImm _ _ _ _ => false
  | .cmnShi _ _ _ _ _ => false
  | .cmnShr _ _ _ _ _ => false
  | .cmnImm _ _ _ _ => false
  | .orrShi _ _ _ _ _ _ _ => false
  | .orrShr _ _ _ _ _ _ _ => false
  | .orrImm _ _ _ _ _ _ => false
  | .movShi _ _ _ _ _ _ => false
  | .movShr _ _ _ _ _ _ => false
  | .movImm _ _ _ _ _ => false
  | .bicShi _ _ _ _ _ _ _ => false
  | .bicShr _ _ _ _ _ _ _ => false
  | .bicImm _ _ _ _ _ _ => false
  | .mvnShi _ _ _ _ _ _ => false
  | .mvnShr _ _ _ _ _ _ => false
  | .mvnImm _ _ _ _ _ => false
  | .mul _ _ _ _ _ => false
  | .mla _ _ _ _ _ _ => false
  | .umull _ _ _ _ _ _ => false
  | .umlal _ _ _ _ _ _ => false
  | .smull _ _ _ _ _ _ => false
  | .smlal _ _ _ _ _ _ => false
  | .swp _ _ _ _ => false
  | .swpb _ _ _ _ => false
  | .mrs _ _ _ => false
  | .msrReg _ _ _ _ => false
  | .msrImm _ _ _ _ _ => false
  | .bx _ _ => false
  | .strhReg _ _ _ _ _ _ _ => true
  | .strhImm _ _ _ _ _ _ _ _ => true
  | .ldrhReg _ _ _ _ _ _ _ => false
  | .ldrhImm _ _ _ _ _ _ _ _ => false
  | .ldrsbReg _ _ _ _ _ _ _ => false
  | .ldrsbImm _ _ _ _ _ _ _ _ => false
  | .ldrshReg _ _ _ _ _ _ _ => false
  | .ldrshImm _ _ _ _ _ _ _ _ => false
  | .strImmPre _ _ _ _ _ _ => true
  | .strImmPost _ _ _ _ _ => true
  | .strtImm _ _ _ _ _ => true
  | .strRegPre _ _ _ _ _ _ _ _ => true
  | .strRegPost _ _ _ _ _ _ _ => true
  | .strtReg _ _ _ _ _ _ _ => true
  | .ldrImmPre _ _ _ _ _ _ => false
  | .ldrImmPost _ _ _ _ _ => false
  | .ldrtImm _ _ _ _ _ => false
  | .ldrRegPre _ _ _ _ _ _ _ _ => false
  | .ldrRegPost _ _ _ _ _ _ _ => false
  | .ldrtReg _ _ _ _ _ _ _ => false
  | .strbImmPre _ _ _ _ _ _ => true
  | .strbImmPost _ _ _ _ _ => true
  | .strbtImm _ _ _ _ _ => true
  | .strbRegPre _ _ _ _ _ _ _ _ => true
  | .strbRegPost _ _ _ _ _ _ _ => true
  | .strbtReg _ _ _ _ _ _ _ => true
  | .ldrbImmPre _ _ _ _ _ _ => false
  | .ldrbImmPost _ _ _ _ _ => false
  | .ldrbtImm _ _ _ _ _ => false
  | .ldrbRegPre _ _ _ _ _ _ _ _ => false
  | .ldrbRegPost _ _ _ _ _ _ _ => false
  | .ldrbtReg _ _ _ _ _ _ _ => false
  | .stm _ _ _ _ _ _ => true
  | .ldm _ _ _ _ _ _ => false
  | .stmS _ _ _ _ _ _ => true
  | .ldmS _ _ _ _ _ _ => false
  | .b _ _ => false
  | .bl _ _ => false
  | .swi _ _ => false
  | .ldcStc _ _ _ _ _ _ _ _ _ _ => false
  | .cdp _ _ _ _ _ _ _ => false
  | .mrcMcr _ _ _ _ _ _ _ _ => false
  | .undefMul00001 _ => false
  | .undefMul00011 _ => false
  | .undefSwpX1 _ => false
  | .undefSwp10 _ => false
  | .undefLdrdStrd _ => false
  | .undefMiscBx00 _ => false
  | .undefMiscBx10 _ => false
  | .undefMiscBx11 _ => false
  | .undefMisc01xx _ => false
  | .undefMisc001x _ => false
  | .undefMisc1xx0 _ => false
  | .undefMovStatus _ => false
  | .undefMedia _ => false
  | .tLslImm _ _ _ => false
  | .tLsrImm _ _ _ => false
  | .tAsrImm _ _ _ => false
  | .tAddReg _ _ _ => false
  | .tSubReg _ _ _ => false
  | .tAddImm3 _ _ _ => false
  | .tSubImm3 _ _ _ => false
  | .tMovImm8 _ _ => false
  | .tCmpImm8 _ _ => false
  | .tAddImm8 _ _ => false
  | .tSubImm8 _ _ => false
  | .tAnd _ _ => false
  | .tEor _ _ => false
  | .tLslReg _ _ => false
  | .tLsrReg _ _ => false
  | .tAsrReg _ _ => false
  | .tAdc _ _ => false
  | .tSbc _ _ => false
  | .tRorReg _ _ => false
  | .tTst _ _ => false
  | .tNeg _ _ => false
  | .tCmpReg _ _ => false
  | .tCmn _ _ => false
  | .tOrr _ _ => false
  | .tMul _ _ => false
  | .tBic _ _ => false
  | .tMvn _ _ => false
  | .tAddHi _ _ _ _ => false
  | .tCmpHi _ _ _ _ => false
  | .tMovHi _ _ _ _ => false
  | .tBx _ _ _ _ => false
  | .tLdrPc _ _ => false
  | .tStrReg _ _ _ => true
  | .tStrbReg _ _ _ => true
  | .tLdrReg _ _ _ => false
  | .tLdrbReg _ _ _ => false
  | .tStrhReg _ _ _ => true
  | .tLdsbReg _ _ _ => false
  | .tLdrhReg _ _ _ => false
  | .tLdshReg _ _ _ => false
  | .tStrImm _ _ _ => true
  | .tLdrImm _ _ _ => false
  | .tStrbImm _ _ _ => true
  | .tLdrbImm _ _ _ => false
  | .tStrhImm _ _ _ => true
  | .tLdrhImm _ _ _ => false
  | .tStrSp _ _ => true
  | .tLdrSp _ _ => false
  | .tAddPc _ _ => false
  | .tAddSp _ _ => false
  | .tAddSpImm _ _ => false
  | .tPush _ _ => true
  | .tPop _ _ => false
  | .tStmia _ _ => true
  | .tLdmia _ _ => false
  | .tBcond0xxx _ _ => false
  | .tBcond10xx _ _ => false
  | .tBcond110x _ _ => false
  | .tSwi _ => false
  | .tB _ => false
  | .tBlPrefix _ => false
  | .tBlSuffix _ => false
  | .tUndef10110001 _ => false
  | .tUndef1011001x _ => false
  | .tUndef1011011x _ => false
  | .tUndef101110xx _ => false
  | .tUndef1011111x _ => false
  | .tUndef11011110 _ => false
  | .tUndef11101 _ => false

/-- The class of the fetch at the start of a step: N when the instruction it executes is a store whose condition
passes, S otherwise (20_memory.md R124; 30_encoding.md R206 for a failing condition). -/
def fetchAccess (i : Instr) (p : Psr) : Access :=
  if instrIsStore i && condHolds (instrCond i) p then .nonseq else .seq

end Sys2Proof.Machine
end

