-- ==== Sys2Proof/Machine/Run.lean ====
section
/-! DEFINITION. The parts of a machine step (spec/61_timers_dma.md R603): the fetch and the execution of one
instruction (10_state.md R52), the idle advance (R604), the dispatch of the due events (R605), the end of a
halt (60_exceptions.md R576) and the IRQ check (R561), and the frame end (70_reset_and_hazards.md R775). -/

namespace Sys2Proof.Machine

open Sys2Proof

/-- The instruction in `pipe0`, decoded in the current state of T (10_state.md R50, R52). -/
def State.currentInstr (s : State) : Instr :=
  if s.cpu.cpsr.t then decodeThumb (s.cpu.pipe0.extractLsb' 0 16) else decodeArm s.cpu.pipe0

/-- The fetch of `A + 2w` and the shift of the pipeline (10_state.md R52). -/
def State.fetchNext (kind : Access) (s : State) : State :=
  let f := s.sys.fetch kind s.cpu.cpsr.t s.pcRead
  { cpu := { s.cpu with pipe0 := s.cpu.pipe1, pipe1 := f.1 }, sys := f.2 }

/-- `ExecuteOneInstruction()` (61_timers_dma.md R603), its cost still in `cost`. -/
def State.executeOne (s : State) : Result :=
  exec s.currentInstr (s.fetchNext (fetchAccess s.currentInstr s.cpu.cpsr))

/-- `now <- now + c` (61_timers_dma.md R603). -/
def State.commit (s : State) : State := s.withSys { s.sys with now := s.sys.now + s.sys.cost, cost := 0 }

/-- The end of the current frame (70_reset_and_hazards.md R775). -/
def Sys.frameEnd (y : Sys) : Nat := y.frameEndPrev + Config.frameCycles

/-- Frames that have ended are counted off, each 280,896 cycles after the one before (70_reset_and_hazards.md R775; log
entry 7). -/
def State.rollFrame (s : State) : State :=
  s.withSys { s.sys with
    frameEndPrev := s.sys.frameEndPrev + Config.frameCycles * ((s.sys.now - s.sys.frameEndPrev) / Config.frameCycles) }

/-- The cycle of the least entry, the frame end if the queue is empty (61_timers_dma.md R604). -/
def Sys.peekCycle (y : Sys) : Nat :=
  match y.events with
  | [] => y.frameEnd
  | e :: _ => e.cycle

/-- The idle advance of a halted CPU: `now <- max(now, min(peek().cycle, frame_end))` (61_timers_dma.md R603). -/
def State.idle (s : State) : State :=
  s.withSys { s.sys with now := max s.sys.now (min s.sys.peekCycle s.sys.frameEnd) }

/-- The first half of a step: one instruction, or an idle advance while halted; neither when the step before handed
over part of its dispatch (log entry 5). -/
def State.runCpu (s : State) : Result :=
  if s.sys.midDispatch then .next s
  else if s.sys.halted then .next s.idle
  else
    match s.executeOne with
    | .next s => .next s.commit
    | .fault f => .fault f
    | .refused r => .refused r

/-- `if halted and (IE AND IF)[13:0] != 0: halted <- 0` (60_exceptions.md R576). -/
def State.wakeUp (s : State) : State :=
  if s.sys.halted && s.sys.wake then s.withSys { s.sys with halted := false } else s

/-- The IRQ check, with the cost of the entry's refill (60_exceptions.md R561, 61_timers_dma.md R603). -/
def State.checkIrq (s : State) : State :=
  if !s.sys.halted && s.sys.irqPending && !s.cpu.cpsr.i then s.takeIrq.commit else s

/-- The second half of a step: the due events, then the end of a halt and the IRQ check (61_timers_dma.md R603). -/
def State.runEvents (s : State) : Result :=
  orFault (s.sys.dispatchDue Config.dispatchBudget) (fun y =>
    if y.dispatchLeft then .next (s.withSys { y with midDispatch := true })
    else .next (s.withSys { y with midDispatch := false }).wakeUp.checkIrq)

/-- `MachineStep()` (61_timers_dma.md R603). -/
def State.machineStep (s : State) : Result :=
  match s.rollFrame.runCpu with
  | .next s => s.runEvents
  | .fault f => .fault f
  | .refused r => .refused r

/-- The state with an instruction of `nbits` bits ready to run: the word in `pipe0`, T as its length says, the CPU
running, the pc aligned for that state. -/
def State.withInstruction (s : State) (nbits w : Nat) : State :=
  let thumb := decide (nbits ≤ 16)
  { cpu := { s.cpu with cpsr := { s.cpu.cpsr with t := thumb }, pc := alignPc thumb s.cpu.pc,
                        pipe0 := BitVec.ofNat 32 w },
    sys := { s.sys with halted := false, midDispatch := false, dmaPending := none } }

end Sys2Proof.Machine
end

