-- ==== Sys2Proof/Machine/Step.lean ====
section
/-! DEFINITION. One step of the machine (spec/61_timers_dma.md R603), and the state whose next step runs a given
instruction. -/

namespace Sys2Proof.Machine

/-- One step of the machine: `MachineStep()` (61_timers_dma.md R603). -/
def step (s : State) : Host.Outcome State Fault Refusal := s.machineStep

/-- The state whose next step runs the instruction with the table bits `w` (10_state.md R52: the word executed is the
one in `pipe0`).  A word of at most 16 bits is a THUMB halfword (log entry 8). -/
def State.withFetchWord (s : State) (nbits w : Nat) : State := s.withInstruction nbits w

end Sys2Proof.Machine
end

