-- ==== Sys2Proof/Machine/HostCalls.lean ====
section
/-! DEFINITION. What the host can do to the machine (spec/70_reset_and_hazards.md R770, R772, R775..R780): create it
from its images, run a frame, set the keys, read the ROM header, and save and restore the state. -/

namespace Sys2Proof.Machine

open Sys2Proof

/-- The errors of `new` (R779). -/
inductive HostError where
  | badBios | badRom | unsupportedBackup
  deriving DecidableEq, Repr

/-- The backup kind a name selects, the kinds' own names in 00_scope.md R9 and 20_memory.md R152; every other name is
refused (R779, log entry 32). -/
def Backup.ofName (name : String) : Option BackupKind :=
  if name = "None" then some .none
  else if name = "SRAM" then some .sram
  else if name = "EEPROM" then some .eeprom
  else if name = "EEPROM512" then some .eeprom512
  else if name = "EEPROM8K" then some .eeprom8k
  else if name = "Flash64K" then some .flash64k
  else if name = "Flash128K" then some .flash128k
  else none

/-- The state of a `BackupDevice` at creation (20_memory.md R150). -/
def Backup.initialDevice : BackupDevice → List Byte
  | .reference => []
  | .supplied => Config.deviceInit

/-- The cells of an image from a key on, in canonical form. -/
def imageCells : Nat → List Byte → List Host.Cell
  | _, [] => []
  | k, b :: rest => if b = Memory.blank k then imageCells (k + 1) rest else (k, b) :: imageCells (k + 1) rest

/-- The state of R771 before the CPU's reset, with parameters and memory in place. -/
def State.unstarted (p : Params) (m : List Host.Cell) : State :=
  { cpu := Cpu.reset, sys := { Sys.reset with params := p, mem := m, device := Backup.initialDevice p.device, lastFetchAddr := 0#32 } }

/-- The registers and latches `skip_bios` seeds (R772). -/
def State.seedSkipBios (s : State) : State :=
  let s := ((s.setRegIn .svc 13#4 0x03007FE0#32).setRegIn .irq 13#4 0x03007FA0#32).setRegIn .usr 13#4 0x03007F00#32
  let s := s.setCpsr { Psr.zero with m := Mode.system.bits }
  s.withSys { s.sys with postflg := true, biosLatch := s.sys.params.biosLatchAfterSkip }

/-- The power-on reset: the reset branch, or the post-boot state of `skip_bios`; the refill is not charged (R770,
R772). -/
def State.powerOn (p : Params) (m : List Host.Cell) : State :=
  let s := State.unstarted p m
  let s := if p.skipBios then s.seedSkipBios.branch 0x08000000#32 else s.branch Exception.reset.vector
  s.withSys { s.sys with cost := 0 }

/-- `new(bios, rom, backup_name)` (R779); the name selects `BACKUP`, the other parameters are those given.  Where several
errors hold, R779 gives no order: `BadBios` is reported before `BadRom` before `UnsupportedBackup`, the model's choice
(log entry 32). -/
def newMachine (p : Params) (bios rom : List Byte) (backupName : String) : Except HostError State :=
  if bios.length ≠ Config.biosSize then .error .badBios
  else if rom.length % 4 ≠ 0 ∨ rom.length > 0x2000000 then .error .badRom
  else
    match Backup.ofName backupName with
    | none => .error .unsupportedBackup
    | some kind =>
        .ok (State.powerOn { p with romSize := rom.length, backup := kind }
          (imageCells (biosKey 0) bios ++ imageCells (romKey 0) rom))

/-- `set_key_state(m, mask)` (R777). -/
def State.setKeyState (mask : BitVec 10) (s : State) : State :=
  s.withSys ({ s.sys with keyinput := mask.zeroExtend 16 } : Sys).evalKeypad

/-- The `n` bytes of the ROM image from `o` on.  A byte past the end of the image reads 0, so that the header calls trim
it: R778 is silent on an image shorter than the header, and this is the model's choice (log entry 31). -/
def Sys.romBytes (y : Sys) (o : Nat) : Nat → List Byte
  | 0 => []
  | n + 1 => Memory.read y.mem (romKey o) :: y.romBytes (o + 1) n

/-- The bytes without trailing NULs (R778). -/
def trimNuls (l : List Byte) : List Byte := (l.reverse.dropWhile (fun b => b == 0#8)).reverse

/-- `game_title(m)` (R778). -/
def State.gameTitle (s : State) : List Byte := trimNuls (s.sys.romBytes 0x0A0 12)

/-- `game_code(m)` (R778). -/
def State.gameCode (s : State) : List Byte := trimNuls (s.sys.romBytes 0x0AC 4)

/-! ## Frames -/

/-- The frame is over: `now >= frame_end`, at the end of a machine step and not inside its dispatch (R775). -/
def State.frameOver (frameEnd : Nat) (s : State) : Bool := decide (frameEnd ≤ s.sys.now) && !s.sys.midDispatch

/-- Steps until the frame is over, none where more than `fuel` are needed (R775). -/
def State.stepsUntil (frameEnd : Nat) : Nat → State → Option Result
  | 0, s => if s.frameOver frameEnd then some (.next s) else none
  | fuel + 1, s =>
      if s.frameOver frameEnd then some (.next s)
      else
        match step s with
        | .next s' => s'.stepsUntil frameEnd fuel
        | .fault f => some (.fault f)
        | .refused r => some (.refused r)

/-- The end of a frame: `frame_end_prev <- frame_end` (R775). -/
def State.endFrame (frameEnd : Nat) (s : State) : State := s.withSys { s.sys with frameEndPrev := frameEnd }

/-- `step_frame(m, fb)` in at most `fuel` steps (R775): it answers a frame run to completion or a fault, and none where
`fuel` steps do not complete the frame (R776, log entry 7). -/
def State.stepFrame (fuel : Nat) (s : State) : Option Result :=
  match s.stepsUntil s.sys.frameEnd fuel with
  | some (.next s') => some (.next (s'.endFrame s.sys.frameEnd))
  | some (.fault f) => some (.fault f)
  | some (.refused r) => some (.refused r)
  | none => none

/-- `step_frame(m, fb)` answers `r`: what any number of steps that completes the frame gives (R775, R776).  There is at
most one such `r`. -/
def State.frameAnswers (s : State) (r : Result) : Prop := ∃ fuel, s.stepFrame fuel = some r

/-! ## Save states (R780) -/

/-- The error of `deserialize_state` (R780). -/
inductive SaveError where
  | saveStateMismatch
  deriving DecidableEq, Repr

/-- A save-state: the magic and the version of its header, the ROM image it belongs to, and the machine state.  Its
layout in bytes is out of scope (00_scope.md R6, log entry 29). -/
structure SaveState where
  magic   : List Byte
  version : Word
  romSize : Nat
  rom     : List Host.Cell
  state   : State
  deriving DecidableEq, Repr

/-- The magic "RBAV" (R780). -/
def saveStateMagic : List Byte := [0x52#8, 0x42#8, 0x41#8, 0x56#8]

/-- The listed bytes of the ROM image. -/
def Sys.romCells (y : Sys) : List Host.Cell :=
  y.mem.filter (fun c => decide (romKey 0 ≤ c.1) && decide (c.1 < romKey 0x2000000))

/-- `serialize_state(m)`: the whole machine state, `frame_end_prev` among it (R780). -/
def State.serialize (s : State) : SaveState :=
  { magic := saveStateMagic, version := Config.saveStateVersion, romSize := s.sys.params.romSize,
    rom := s.sys.romCells, state := s }

/-- `deserialize_state(m, bytes)` on a machine with a ROM image: the saved state, or `SaveStateMismatch` on a wrong version
or ROM (R780).  Two choices of the model (log entry 29): a wrong magic, of which R780 says nothing, is
`SaveStateMismatch` too; and the parameters and the BIOS image, which R76 does not count as state, are restored as
they were saved. -/
def State.deserialize (s : State) (v : SaveState) : Except SaveError State :=
  if v.magic = saveStateMagic ∧ v.version = Config.saveStateVersion ∧ v.romSize = s.sys.params.romSize ∧
      v.rom = s.sys.romCells then .ok v.state
  else .error .saveStateMismatch

end Sys2Proof.Machine
end

