-- ==== Sys2Proof/Safety.lean ====
section
/-! DEFINITION. The words the statements use: the tables of what each instruction may write (spec/10_state.md R43,
R57, R61, R63, R64, 43_arm_loadstore.md, 46_thumb_mem.md), the bytes a store can reach (20_memory.md R107), the
invariants of a safe run, and the instruction shapes that one statement covers together. -/

namespace Sys2Proof.Machine

open Sys2Proof

/-! ## What an instruction may write -/

/-- What an instruction may write in the status registers: the flags N, Z, C, V; the bit T; the mode and the masks I
and F; an SPSR. -/
structure Effects where
  flags : Bool
  thumb : Bool
  mode  : Bool
  spsr  : Bool
  deriving DecidableEq, Repr

/-- No status register. -/
def Effects.none : Effects := { flags := false, thumb := false, mode := false, spsr := false }
/-- The flags only (10_state.md R64). -/
def Effects.compares : Effects := { Effects.none with flags := true }
/-- The flags when `S = 1` (10_state.md R64). -/
def Effects.flagsWhen (s : Bool) : Effects := { Effects.none with flags := s }
/-- Data processing: the flags when `S = 1`; the whole CPSR when also `Rd = 15` (40_arm_dataproc.md R274, R275). -/
def Effects.computes (s : Bool) (rd : RegNum) : Effects :=
  { flags := s, thumb := s && rd == 15#4, mode := s && rd == 15#4, spsr := false }
/-- MSR (42_arm_psr_branch.md R331). -/
def Effects.writesPsr (r : Bool) (mask : BitVec 4) : Effects :=
  { flags := !r && mask.getLsbD 3, thumb := false, mode := !r && mask.getLsbD 0, spsr := r }
/-- BX (10_state.md R57). -/
def Effects.exchanges : Effects := { Effects.none with thumb := true }
/-- LDM with `S = 1`: the whole CPSR when R15 is loaded (43_arm_loadstore.md R370). -/
def Effects.returns (b : Bool) : Effects := { flags := b, thumb := b, mode := b, spsr := false }
/-- An exception entry: everything but the flags (60_exceptions.md R551). -/
def Effects.traps : Effects := { flags := false, thumb := true, mode := true, spsr := true }

/-- Registers of the current view. -/
def own (s : State) (l : List RegNum) : List (Bank × RegNum) := l.map (fun r => (s.cpu.bank, r))

/-- The base of a transfer, when it is written back. -/
def baseIf (wb : Bool) (rn : RegNum) : List RegNum := if wb then [rn] else []

/-- The view an LDM with `S = 1` loads: the User view unless R15 is in the list (43_arm_loadstore.md R370). -/
def State.loadBank (s : State) (list : BitVec 16) : Bank := if listHasPc list then s.cpu.bank else .usr

/-- The address of a single transfer: the moved base when pre-indexed, the base when post-indexed (43_arm_loadstore.md
R352). -/
def transferAddress (x : Indexing) (base offset : Word) : Word := x.address base offset

/-- The stores of a store-multiple: a word for each register, at ascending addresses (43_arm_loadstore.md R367). -/
def blockStores (plan : BlockPlan) : List (Width × Word) :=
  (List.range plan.regs.length).map (fun k => (.word, plan.start + BitVec.ofNat 32 (4 * k)))

end Sys2Proof.Machine

namespace Sys2Proof

open Sys2Proof.Machine

/-- What each instruction may write in the status registers. -/
def Instr.effects : Instr → Effects
  | .andShi _ s _ rd _ _ _ => .computes s rd
  | .andShr _ s _ rd _ _ _ => .computes s rd
  | .andImm _ s _ rd _ _ => .computes s rd
  | .eorShi _ s _ rd _ _ _ => .computes s rd
  | .eorShr _ s _ rd _ _ _ => .computes s rd
  | .eorImm _ s _ rd _ _ => .computes s rd
  | .subShi _ s _ rd _ _ _ => .computes s rd
  | .subShr _ s _ rd _ _ _ => .computes s rd
  | .subImm _ s _ rd _ _ => .computes s rd
  | .rsbShi _ s _ rd _ _ _ => .computes s rd
  | .rsbShr _ s _ rd _ _ _ => .computes s rd
  | .rsbImm _ s _ rd _ _ => .computes s rd
  | .addShi _ s _ rd _ _ _ => .computes s rd
  | .addShr _ s _ rd _ _ _ => .computes s rd
  | .addImm _ s _ rd _ _ => .computes s rd
  | .adcShi _ s _ rd _ _ _ => .computes s rd
  | .adcShr _ s _ rd _ _ _ => .computes s rd
  | .adcImm _ s _ rd _ _ => .computes s rd
  | .sbcShi _ s _ rd _ _ _ => .computes s rd
  | .sbcShr _ s _ rd _ _ _ => .computes s rd
  | .sbcImm _ s _ rd _ _ => .computes s rd
  | .rscShi _ s _ rd _ _ _ => .computes s rd
  | .rscShr _ s _ rd _ _ _ => .computes s rd
  | .rscImm _ s _ rd _ _ => .computes s rd
  | .tstShi _ _ _ _ _ => .compares
  | .tstShr _ _ _ _ _ => .compares
  | .tstImm _ _ _ _ => .compares
  | .teqShi _ _ _ _ _ => .compares
  | .teqShr _ _ _ _ _ => .compares
  | .teqImm _ _ _ _ => .compares
  | .cmpShi _ _ _ _ _ => .compares
  | .cmpShr _ _ _ _ _ => .compares
  | .cmpImm _ _ _ _ => .compares
  | .cmnShi _ _ _ _ _ => .compares
  | .cmnShr _ _ _ _ _ => .compares
  | .cmnImm _ _ _ _ => .compares
  | .orrShi _ s _ rd _ _ _ => .computes s rd
  | .orrShr _ s _ rd _ _ _ => .computes s rd
  | .orrImm _ s _ rd _ _ => .computes s rd
  | .movShi _ s rd _ _ _ => .computes s rd
  | .movShr _ s rd _ _ _ => .computes s rd
  | .movImm _ s rd _ _ => .computes s rd
  | .bicShi _ s _ rd _ _ _ => .computes s rd
  | .bicShr _ s _ rd _ _ _ => .computes s rd
  | .bicImm _ s _ rd _ _ => .computes s rd
  | .mvnShi _ s rd _ _ _ => .computes s rd
  | .mvnShr _ s rd _ _ _ => .computes s rd
  | .mvnImm _ s rd _ _ => .computes s rd
  | .mul _ s _ _ _ => .flagsWhen s
  | .mla _ s _ _ _ _ => .flagsWhen s
  | .umull _ s _ _ _ _ => .flagsWhen s
  | .umlal _ s _ _ _ _ => .flagsWhen s
  | .smull _ s _ _ _ _ => .flagsWhen s
  | .smlal _ s _ _ _ _ => .flagsWhen s
  | .swp _ _ _ _ => .none
  | .swpb _ _ _ _ => .none
  | .mrs _ _ _ => .none
  | .msrReg _ r mask _ => .writesPsr r mask
  | .msrImm _ r mask _ _ => .writesPsr r mask
  | .bx _ _ => .exchanges
  | .strhReg _ _ _ _ _ _ _ => .none
  | .strhImm _ _ _ _ _ _ _ _ => .none
  | .ldrhReg _ _ _ _ _ _ _ => .none
  | .ldrhImm _ _ _ _ _ _ _ _ => .none
  | .ldrsbReg _ _ _ _ _ _ _ => .none
  | .ldrsbImm _ _ _ _ _ _ _ _ => .none
  | .ldrshReg _ _ _ _ _ _ _ => .none
  | .ldrshImm _ _ _ _ _ _ _ _ => .none
  | .strImmPre _ _ _ _ _ _ => .none
  | .strImmPost _ _ _ _ _ => .none
  | .strtImm _ _ _ _ _ => .none
  | .strRegPre _ _ _ _ _ _ _ _ => .none
  | .strRegPost _ _ _ _ _ _ _ => .none
  | .strtReg _ _ _ _ _ _ _ => .none
  | .ldrImmPre _ _ _ _ _ _ => .none
  | .ldrImmPost _ _ _ _ _ => .none
  | .ldrtImm _ _ _ _ _ => .none
  | .ldrRegPre _ _ _ _ _ _ _ _ => .none
  | .ldrRegPost _ _ _ _ _ _ _ => .none
  | .ldrtReg _ _ _ _ _ _ _ => .none
  | .strbImmPre _ _ _ _ _ _ => .none
  | .strbImmPost _ _ _ _ _ => .none
  | .strbtImm _ _ _ _ _ => .none
  | .strbRegPre _ _ _ _ _ _ _ _ => .none
  | .strbRegPost _ _ _ _ _ _ _ => .none
  | .strbtReg _ _ _ _ _ _ _ => .none
  | .ldrbImmPre _ _ _ _ _ _ => .none
  | .ldrbImmPost _ _ _ _ _ => .none
  | .ldrbtImm _ _ _ _ _ => .none
  | .ldrbRegPre _ _ _ _ _ _ _ _ => .none
  | .ldrbRegPost _ _ _ _ _ _ _ => .none
  | .ldrbtReg _ _ _ _ _ _ _ => .none
  | .stm _ _ _ _ _ _ => .none
  | .ldm _ _ _ _ _ _ => .none
  | .stmS _ _ _ _ _ _ => .none
  | .ldmS _ _ _ _ _ list => .returns (listHasPc list)
  | .b _ _ => .none
  | .bl _ _ => .none
  | .swi _ _ => .traps
  | .ldcStc _ _ _ _ _ _ _ _ _ _ => .traps
  | .cdp _ _ _ _ _ _ _ => .traps
  | .mrcMcr _ _ _ _ _ _ _ _ => .traps
  | .undefMul00001 _ => .traps
  | .undefMul00011 _ => .traps
  | .undefSwpX1 _ => .traps
  | .undefSwp10 _ => .traps
  | .undefLdrdStrd _ => .traps
  | .undefMiscBx00 _ => .traps
  | .undefMiscBx10 _ => .traps
  | .undefMiscBx11 _ => .traps
  | .undefMisc01xx _ => .traps
  | .undefMisc001x _ => .traps
  | .undefMisc1xx0 _ => .traps
  | .undefMovStatus _ => .traps
  | .undefMedia _ => .traps
  | .tLslImm _ _ _ => .compares
  | .tLsrImm _ _ _ => .compares
  | .tAsrImm _ _ _ => .compares
  | .tAddReg _ _ _ => .compares
  | .tSubReg _ _ _ => .compares
  | .tAddImm3 _ _ _ => .compares
  | .tSubImm3 _ _ _ => .compares
  | .tMovImm8 _ _ => .compares
  | .tCmpImm8 _ _ => .compares
  | .tAddImm8 _ _ => .compares
  | .tSubImm8 _ _ => .compares
  | .tAnd _ _ => .compares
  | .tEor _ _ => .compares
  | .tLslReg _ _ => .compares
  | .tLsrReg _ _ => .compares
  | .tAsrReg _ _ => .compares
  | .tAdc _ _ => .compares
  | .tSbc _ _ => .compares
  | .tRorReg _ _ => .compares
  | .tTst _ _ => .compares
  | .tNeg _ _ => .compares
  | .tCmpReg _ _ => .compares
  | .tCmn _ _ => .compares
  | .tOrr _ _ => .compares
  | .tMul _ _ => .compares
  | .tBic _ _ => .compares
  | .tMvn _ _ => .compares
  | .tAddHi _ _ _ _ => .none
  | .tCmpHi _ _ _ _ => .compares
  | .tMovHi _ _ _ _ => .none
  | .tBx _ _ _ _ => .exchanges
  | .tLdrPc _ _ => .none
  | .tStrReg _ _ _ => .none
  | .tStrbReg _ _ _ => .none
  | .tLdrReg _ _ _ => .none
  | .tLdrbReg _ _ _ => .none
  | .tStrhReg _ _ _ => .none
  | .tLdsbReg _ _ _ => .none
  | .tLdrhReg _ _ _ => .none
  | .tLdshReg _ _ _ => .none
  | .tStrImm _ _ _ => .none
  | .tLdrImm _ _ _ => .none
  | .tStrbImm _ _ _ => .none
  | .tLdrbImm _ _ _ => .none
  | .tStrhImm _ _ _ => .none
  | .tLdrhImm _ _ _ => .none
  | .tStrSp _ _ => .none
  | .tLdrSp _ _ => .none
  | .tAddPc _ _ => .none
  | .tAddSp _ _ => .none
  | .tAddSpImm _ _ => .none
  | .tPush _ _ => .none
  | .tPop _ _ => .none
  | .tStmia _ _ => .none
  | .tLdmia _ _ => .none
  | .tBcond0xxx _ _ => .none
  | .tBcond10xx _ _ => .none
  | .tBcond110x _ _ => .none
  | .tSwi _ => .traps
  | .tB _ => .none
  | .tBlPrefix _ => .none
  | .tBlSuffix _ => .none
  | .tUndef10110001 _ => .traps
  | .tUndef1011001x _ => .traps
  | .tUndef1011011x _ => .traps
  | .tUndef101110xx _ => .traps
  | .tUndef1011111x _ => .traps
  | .tUndef11011110 _ => .traps
  | .tUndef11101 _ => .traps

/-- The registers, each with its view, that an instruction may write from a state. -/
def Instr.destinations (i : Instr) (st : State) : List (Bank × RegNum) :=
  match i with
  | .andShi _ _ _ rd _ _ _ => own st [rd]
  | .andShr _ _ _ rd _ _ _ => own st [rd]
  | .andImm _ _ _ rd _ _ => own st [rd]
  | .eorShi _ _ _ rd _ _ _ => own st [rd]
  | .eorShr _ _ _ rd _ _ _ => own st [rd]
  | .eorImm _ _ _ rd _ _ => own st [rd]
  | .subShi _ _ _ rd _ _ _ => own st [rd]
  | .subShr _ _ _ rd _ _ _ => own st [rd]
  | .subImm _ _ _ rd _ _ => own st [rd]
  | .rsbShi _ _ _ rd _ _ _ => own st [rd]
  | .rsbShr _ _ _ rd _ _ _ => own st [rd]
  | .rsbImm _ _ _ rd _ _ => own st [rd]
  | .addShi _ _ _ rd _ _ _ => own st [rd]
  | .addShr _ _ _ rd _ _ _ => own st [rd]
  | .addImm _ _ _ rd _ _ => own st [rd]
  | .adcShi _ _ _ rd _ _ _ => own st [rd]
  | .adcShr _ _ _ rd _ _ _ => own st [rd]
  | .adcImm _ _ _ rd _ _ => own st [rd]
  | .sbcShi _ _ _ rd _ _ _ => own st [rd]
  | .sbcShr _ _ _ rd _ _ _ => own st [rd]
  | .sbcImm _ _ _ rd _ _ => own st [rd]
  | .rscShi _ _ _ rd _ _ _ => own st [rd]
  | .rscShr _ _ _ rd _ _ _ => own st [rd]
  | .rscImm _ _ _ rd _ _ => own st [rd]
  | .tstShi _ _ _ _ _ => []
  | .tstShr _ _ _ _ _ => []
  | .tstImm _ _ _ _ => []
  | .teqShi _ _ _ _ _ => []
  | .teqShr _ _ _ _ _ => []
  | .teqImm _ _ _ _ => []
  | .cmpShi _ _ _ _ _ => []
  | .cmpShr _ _ _ _ _ => []
  | .cmpImm _ _ _ _ => []
  | .cmnShi _ _ _ _ _ => []
  | .cmnShr _ _ _ _ _ => []
  | .cmnImm _ _ _ _ => []
  | .orrShi _ _ _ rd _ _ _ => own st [rd]
  | .orrShr _ _ _ rd _ _ _ => own st [rd]
  | .orrImm _ _ _ rd _ _ => own st [rd]
  | .movShi _ _ rd _ _ _ => own st [rd]
  | .movShr _ _ rd _ _ _ => own st [rd]
  | .movImm _ _ rd _ _ => own st [rd]
  | .bicShi _ _ _ rd _ _ _ => own st [rd]
  | .bicShr _ _ _ rd _ _ _ => own st [rd]
  | .bicImm _ _ _ rd _ _ => own st [rd]
  | .mvnShi _ _ rd _ _ _ => own st [rd]
  | .mvnShr _ _ rd _ _ _ => own st [rd]
  | .mvnImm _ _ rd _ _ => own st [rd]
  | .mul _ _ rd _ _ => own st [rd]
  | .mla _ _ rd _ _ _ => own st [rd]
  | .umull _ _ rdHi rdLo _ _ => own st [rdLo, rdHi]
  | .umlal _ _ rdHi rdLo _ _ => own st [rdLo, rdHi]
  | .smull _ _ rdHi rdLo _ _ => own st [rdLo, rdHi]
  | .smlal _ _ rdHi rdLo _ _ => own st [rdLo, rdHi]
  | .swp _ _ rd _ => own st [rd]
  | .swpb _ _ rd _ => own st [rd]
  | .mrs _ _ rd => own st [rd]
  | .msrReg _ _ _ _ => []
  | .msrImm _ _ _ _ _ => []
  | .bx _ _ => []
  | .strhReg _ p _ w rn _ _ => own st (baseIf (!p || w) rn)
  | .strhImm _ p _ w rn _ _ _ => own st (baseIf (!p || w) rn)
  | .ldrhReg _ p _ w rn rd _ => own st (rd :: baseIf (!p || w) rn)
  | .ldrhImm _ p _ w rn rd _ _ => own st (rd :: baseIf (!p || w) rn)
  | .ldrsbReg _ p _ w rn rd _ => own st (rd :: baseIf (!p || w) rn)
  | .ldrsbImm _ p _ w rn rd _ _ => own st (rd :: baseIf (!p || w) rn)
  | .ldrshReg _ p _ w rn rd _ => own st (rd :: baseIf (!p || w) rn)
  | .ldrshImm _ p _ w rn rd _ _ => own st (rd :: baseIf (!p || w) rn)
  | .strImmPre _ _ w rn _ _ => own st (baseIf w rn)
  | .strImmPost _ _ rn _ _ => own st [rn]
  | .strtImm _ _ rn _ _ => own st [rn]
  | .strRegPre _ _ w rn _ _ _ _ => own st (baseIf w rn)
  | .strRegPost _ _ rn _ _ _ _ => own st [rn]
  | .strtReg _ _ rn _ _ _ _ => own st [rn]
  | .ldrImmPre _ _ w rn rd _ => own st (rd :: baseIf w rn)
  | .ldrImmPost _ _ rn rd _ => own st [rd, rn]
  | .ldrtImm _ _ rn rd _ => own st [rd, rn]
  | .ldrRegPre _ _ w rn rd _ _ _ => own st (rd :: baseIf w rn)
  | .ldrRegPost _ _ rn rd _ _ _ => own st [rd, rn]
  | .ldrtReg _ _ rn rd _ _ _ => own st [rd, rn]
  | .strbImmPre _ _ w rn _ _ => own st (baseIf w rn)
  | .strbImmPost _ _ rn _ _ => own st [rn]
  | .strbtImm _ _ rn _ _ => own st [rn]
  | .strbRegPre _ _ w rn _ _ _ _ => own st (baseIf w rn)
  | .strbRegPost _ _ rn _ _ _ _ => own st [rn]
  | .strbtReg _ _ rn _ _ _ _ => own st [rn]
  | .ldrbImmPre _ _ w rn rd _ => own st (rd :: baseIf w rn)
  | .ldrbImmPost _ _ rn rd _ => own st [rd, rn]
  | .ldrbtImm _ _ rn rd _ => own st [rd, rn]
  | .ldrbRegPre _ _ w rn rd _ _ _ => own st (rd :: baseIf w rn)
  | .ldrbRegPost _ _ rn rd _ _ _ => own st [rd, rn]
  | .ldrbtReg _ _ rn rd _ _ _ => own st [rd, rn]
  | .stm _ _ _ w rn _ => own st (baseIf w rn)
  | .ldm _ _ _ w rn list => own st (baseIf w rn ++ regList list)
  | .stmS _ _ _ w rn _ => own st (baseIf w rn)
  | .ldmS _ _ _ w rn list => own st (baseIf w rn) ++ (regList list).map (fun r => (st.loadBank list, r))
  | .b _ _ => []
  | .bl _ _ => own st [14#4]
  | .swi _ _ => [(.svc, 14#4)]
  | .ldcStc _ _ _ _ _ _ _ _ _ _ => [(.und, 14#4)]
  | .cdp _ _ _ _ _ _ _ => [(.und, 14#4)]
  | .mrcMcr _ _ _ _ _ _ _ _ => [(.und, 14#4)]
  | .undefMul00001 _ => [(.und, 14#4)]
  | .undefMul00011 _ => [(.und, 14#4)]
  | .undefSwpX1 _ => [(.und, 14#4)]
  | .undefSwp10 _ => [(.und, 14#4)]
  | .undefLdrdStrd _ => [(.und, 14#4)]
  | .undefMiscBx00 _ => [(.und, 14#4)]
  | .undefMiscBx10 _ => [(.und, 14#4)]
  | .undefMiscBx11 _ => [(.und, 14#4)]
  | .undefMisc01xx _ => [(.und, 14#4)]
  | .undefMisc001x _ => [(.und, 14#4)]
  | .undefMisc1xx0 _ => [(.und, 14#4)]
  | .undefMovStatus _ => [(.und, 14#4)]
  | .undefMedia _ => [(.und, 14#4)]
  | .tLslImm _ _ rd => own st [lowReg rd]
  | .tLsrImm _ _ rd => own st [lowReg rd]
  | .tAsrImm _ _ rd => own st [lowReg rd]
  | .tAddReg _ _ rd => own st [lowReg rd]
  | .tSubReg _ _ rd => own st [lowReg rd]
  | .tAddImm3 _ _ rd => own st [lowReg rd]
  | .tSubImm3 _ _ rd => own st [lowReg rd]
  | .tMovImm8 rd _ => own st [lowReg rd]
  | .tCmpImm8 _ _ => []
  | .tAddImm8 rd _ => own st [lowReg rd]
  | .tSubImm8 rd _ => own st [lowReg rd]
  | .tAnd _ rd => own st [lowReg rd]
  | .tEor _ rd => own st [lowReg rd]
  | .tLslReg _ rd => own st [lowReg rd]
  | .tLsrReg _ rd => own st [lowReg rd]
  | .tAsrReg _ rd => own st [lowReg rd]
  | .tAdc _ rd => own st [lowReg rd]
  | .tSbc _ rd => own st [lowReg rd]
  | .tRorReg _ rd => own st [lowReg rd]
  | .tTst _ _ => []
  | .tNeg _ rd => own st [lowReg rd]
  | .tCmpReg _ _ => []
  | .tCmn _ _ => []
  | .tOrr _ rd => own st [lowReg rd]
  | .tMul _ rd => own st [lowReg rd]
  | .tBic _ rd => own st [lowReg rd]
  | .tMvn _ rd => own st [lowReg rd]
  | .tAddHi h1 _ _ rd => own st [hiReg h1 rd]
  | .tCmpHi _ _ _ _ => []
  | .tMovHi h1 _ _ rd => own st [hiReg h1 rd]
  | .tBx _ _ _ _ => []
  | .tLdrPc rd _ => own st [lowReg rd]
  | .tStrReg _ _ _ => []
  | .tStrbReg _ _ _ => []
  | .tLdrReg _ _ rd => own st [lowReg rd]
  | .tLdrbReg _ _ rd => own st [lowReg rd]
  | .tStrhReg _ _ _ => []
  | .tLdsbReg _ _ rd => own st [lowReg rd]
  | .tLdrhReg _ _ rd => own st [lowReg rd]
  | .tLdshReg _ _ rd => own st [lowReg rd]
  | .tStrImm _ _ _ => []
  | .tLdrImm _ _ rd => own st [lowReg rd]
  | .tStrbImm _ _ _ => []
  | .tLdrbImm _ _ rd => own st [lowReg rd]
  | .tStrhImm _ _ _ => []
  | .tLdrhImm _ _ rd => own st [lowReg rd]
  | .tStrSp _ _ => []
  | .tLdrSp rd _ => own st [lowReg rd]
  | .tAddPc rd _ => own st [lowReg rd]
  | .tAddSp rd _ => own st [lowReg rd]
  | .tAddSpImm _ _ => own st [13#4]
  | .tPush _ _ => own st [13#4]
  | .tPop r list => own st (13#4 :: regList (popList r list))
  | .tStmia rb _ => own st [lowReg rb]
  | .tLdmia rb list => own st (lowReg rb :: regList (lowList list))
  | .tBcond0xxx _ _ => []
  | .tBcond10xx _ _ => []
  | .tBcond110x _ _ => []
  | .tSwi _ => [(.svc, 14#4)]
  | .tB _ => []
  | .tBlPrefix _ => own st [14#4]
  | .tBlSuffix _ => own st [14#4]
  | .tUndef10110001 _ => [(.und, 14#4)]
  | .tUndef1011001x _ => [(.und, 14#4)]
  | .tUndef1011011x _ => [(.und, 14#4)]
  | .tUndef101110xx _ => [(.und, 14#4)]
  | .tUndef1011111x _ => [(.und, 14#4)]
  | .tUndef11011110 _ => [(.und, 14#4)]
  | .tUndef11101 _ => [(.und, 14#4)]

/-- The stores an instruction makes from a state: the width and the address of each, before the bus aligns it. -/
def Instr.stores (i : Instr) (st : State) : List (Width × Word) :=
  match i with
  | .andShi _ _ _ _ _ _ _ => []
  | .andShr _ _ _ _ _ _ _ => []
  | .andImm _ _ _ _ _ _ => []
  | .eorShi _ _ _ _ _ _ _ => []
  | .eorShr _ _ _ _ _ _ _ => []
  | .eorImm _ _ _ _ _ _ => []
  | .subShi _ _ _ _ _ _ _ => []
  | .subShr _ _ _ _ _ _ _ => []
  | .subImm _ _ _ _ _ _ => []
  | .rsbShi _ _ _ _ _ _ _ => []
  | .rsbShr _ _ _ _ _ _ _ => []
  | .rsbImm _ _ _ _ _ _ => []
  | .addShi _ _ _ _ _ _ _ => []
  | .addShr _ _ _ _ _ _ _ => []
  | .addImm _ _ _ _ _ _ => []
  | .adcShi _ _ _ _ _ _ _ => []
  | .adcShr _ _ _ _ _ _ _ => []
  | .adcImm _ _ _ _ _ _ => []
  | .sbcShi _ _ _ _ _ _ _ => []
  | .sbcShr _ _ _ _ _ _ _ => []
  | .sbcImm _ _ _ _ _ _ => []
  | .rscShi _ _ _ _ _ _ _ => []
  | .rscShr _ _ _ _ _ _ _ => []
  | .rscImm _ _ _ _ _ _ => []
  | .tstShi _ _ _ _ _ => []
  | .tstShr _ _ _ _ _ => []
  | .tstImm _ _ _ _ => []
  | .teqShi _ _ _ _ _ => []
  | .teqShr _ _ _ _ _ => []
  | .teqImm _ _ _ _ => []
  | .cmpShi _ _ _ _ _ => []
  | .cmpShr _ _ _ _ _ => []
  | .cmpImm _ _ _ _ => []
  | .cmnShi _ _ _ _ _ => []
  | .cmnShr _ _ _ _ _ => []
  | .cmnImm _ _ _ _ => []
  | .orrShi _ _ _ _ _ _ _ => []
  | .orrShr _ _ _ _ _ _ _ => []
  | .orrImm _ _ _ _ _ _ => []
  | .movShi _ _ _ _ _ _ => []
  | .movShr _ _ _ _ _ _ => []
  | .movImm _ _ _ _ _ => []
  | .bicShi _ _ _ _ _ _ _ => []
  | .bicShr _ _ _ _ _ _ _ => []
  | .bicImm _ _ _ _ _ _ => []
  | .mvnShi _ _ _ _ _ _ => []
  | .mvnShr _ _ _ _ _ _ => []
  | .mvnImm _ _ _ _ _ => []
  | .mul _ _ _ _ _ => []
  | .mla _ _ _ _ _ _ => []
  | .umull _ _ _ _ _ _ => []
  | .umlal _ _ _ _ _ _ => []
  | .smull _ _ _ _ _ _ => []
  | .smlal _ _ _ _ _ _ => []
  | .swp _ rn _ _ => [(.word, st.reg rn)]
  | .swpb _ rn _ _ => [(.byte, st.reg rn)]
  | .mrs _ _ _ => []
  | .msrReg _ _ _ _ => []
  | .msrImm _ _ _ _ _ => []
  | .bx _ _ => []
  | .strhReg _ p u w rn _ rm => [(.half, transferAddress (.halfword p u w) (st.reg rn) (st.reg rm))]
  | .strhImm _ p u w rn _ immH immL => [(.half, transferAddress (.halfword p u w) (st.reg rn) (halfOffset immH immL))]
  | .ldrhReg _ _ _ _ _ _ _ => []
  | .ldrhImm _ _ _ _ _ _ _ _ => []
  | .ldrsbReg _ _ _ _ _ _ _ => []
  | .ldrsbImm _ _ _ _ _ _ _ _ => []
  | .ldrshReg _ _ _ _ _ _ _ => []
  | .ldrshImm _ _ _ _ _ _ _ _ => []
  | .strImmPre _ u w rn _ imm12 => [(.word, transferAddress (.preIndexed u w) (st.reg rn) (imm12.zeroExtend 32))]
  | .strImmPost _ u rn _ imm12 => [(.word, transferAddress (.postIndexed u) (st.reg rn) (imm12.zeroExtend 32))]
  | .strtImm _ u rn _ imm12 => [(.word, transferAddress (.postIndexed u) (st.reg rn) (imm12.zeroExtend 32))]
  | .strRegPre _ u w rn _ shiftImm shift rm => [(.word, transferAddress (.preIndexed u w) (st.reg rn) (shiftedOffset shiftImm shift rm st))]
  | .strRegPost _ u rn _ shiftImm shift rm => [(.word, transferAddress (.postIndexed u) (st.reg rn) (shiftedOffset shiftImm shift rm st))]
  | .strtReg _ u rn _ shiftImm shift rm => [(.word, transferAddress (.postIndexed u) (st.reg rn) (shiftedOffset shiftImm shift rm st))]
  | .ldrImmPre _ _ _ _ _ _ => []
  | .ldrImmPost _ _ _ _ _ => []
  | .ldrtImm _ _ _ _ _ => []
  | .ldrRegPre _ _ _ _ _ _ _ _ => []
  | .ldrRegPost _ _ _ _ _ _ _ => []
  | .ldrtReg _ _ _ _ _ _ _ => []
  | .strbImmPre _ u w rn _ imm12 => [(.byte, transferAddress (.preIndexed u w) (st.reg rn) (imm12.zeroExtend 32))]
  | .strbImmPost _ u rn _ imm12 => [(.byte, transferAddress (.postIndexed u) (st.reg rn) (imm12.zeroExtend 32))]
  | .strbtImm _ u rn _ imm12 => [(.byte, transferAddress (.postIndexed u) (st.reg rn) (imm12.zeroExtend 32))]
  | .strbRegPre _ u w rn _ shiftImm shift rm => [(.byte, transferAddress (.preIndexed u w) (st.reg rn) (shiftedOffset shiftImm shift rm st))]
  | .strbRegPost _ u rn _ shiftImm shift rm => [(.byte, transferAddress (.postIndexed u) (st.reg rn) (shiftedOffset shiftImm shift rm st))]
  | .strbtReg _ u rn _ shiftImm shift rm => [(.byte, transferAddress (.postIndexed u) (st.reg rn) (shiftedOffset shiftImm shift rm st))]
  | .ldrbImmPre _ _ _ _ _ _ => []
  | .ldrbImmPost _ _ _ _ _ => []
  | .ldrbtImm _ _ _ _ _ => []
  | .ldrbRegPre _ _ _ _ _ _ _ _ => []
  | .ldrbRegPost _ _ _ _ _ _ _ => []
  | .ldrbtReg _ _ _ _ _ _ _ => []
  | .stm _ p u _ rn list => blockStores (blockPlan p u (st.reg rn) list)
  | .ldm _ _ _ _ _ _ => []
  | .stmS _ p u _ rn list => blockStores (blockPlan p u (st.reg rn) list)
  | .ldmS _ _ _ _ _ _ => []
  | .b _ _ => []
  | .bl _ _ => []
  | .swi _ _ => []
  | .ldcStc _ _ _ _ _ _ _ _ _ _ => []
  | .cdp _ _ _ _ _ _ _ => []
  | .mrcMcr _ _ _ _ _ _ _ _ => []
  | .undefMul00001 _ => []
  | .undefMul00011 _ => []
  | .undefSwpX1 _ => []
  | .undefSwp10 _ => []
  | .undefLdrdStrd _ => []
  | .undefMiscBx00 _ => []
  | .undefMiscBx10 _ => []
  | .undefMiscBx11 _ => []
  | .undefMisc01xx _ => []
  | .undefMisc001x _ => []
  | .undefMisc1xx0 _ => []
  | .undefMovStatus _ => []
  | .undefMedia _ => []
  | .tLslImm _ _ _ => []
  | .tLsrImm _ _ _ => []
  | .tAsrImm _ _ _ => []
  | .tAddReg _ _ _ => []
  | .tSubReg _ _ _ => []
  | .tAddImm3 _ _ _ => []
  | .tSubImm3 _ _ _ => []
  | .tMovImm8 _ _ => []
  | .tCmpImm8 _ _ => []
  | .tAddImm8 _ _ => []
  | .tSubImm8 _ _ => []
  | .tAnd _ _ => []
  | .tEor _ _ => []
  | .tLslReg _ _ => []
  | .tLsrReg _ _ => []
  | .tAsrReg _ _ => []
  | .tAdc _ _ => []
  | .tSbc _ _ => []
  | .tRorReg _ _ => []
  | .tTst _ _ => []
  | .tNeg _ _ => []
  | .tCmpReg _ _ => []
  | .tCmn _ _ => []
  | .tOrr _ _ => []
  | .tMul _ _ => []
  | .tBic _ _ => []
  | .tMvn _ _ => []
  | .tAddHi _ _ _ _ => []
  | .tCmpHi _ _ _ _ => []
  | .tMovHi _ _ _ _ => []
  | .tBx _ _ _ _ => []
  | .tLdrPc _ _ => []
  | .tStrReg ro rb _ => [(.word, st.regOffset rb ro)]
  | .tStrbReg ro rb _ => [(.byte, st.regOffset rb ro)]
  | .tLdrReg _ _ _ => []
  | .tLdrbReg _ _ _ => []
  | .tStrhReg ro rb _ => [(.half, st.regOffset rb ro)]
  | .tLdsbReg _ _ _ => []
  | .tLdrhReg _ _ _ => []
  | .tLdshReg _ _ _ => []
  | .tStrImm offset5 rb _ => [(.word, st.reg (lowReg rb) + scaled offset5 2)]
  | .tLdrImm _ _ _ => []
  | .tStrbImm offset5 rb _ => [(.byte, st.reg (lowReg rb) + scaled offset5 0)]
  | .tLdrbImm _ _ _ => []
  | .tStrhImm offset5 rb _ => [(.half, st.reg (lowReg rb) + scaled offset5 1)]
  | .tLdrhImm _ _ _ => []
  | .tStrSp _ word8 => [(.word, st.reg 13#4 + scaled word8 2)]
  | .tLdrSp _ _ => []
  | .tAddPc _ _ => []
  | .tAddSp _ _ => []
  | .tAddSpImm _ _ => []
  | .tPush r list => blockStores (blockPlan true false (st.reg 13#4) (pushList r list))
  | .tPop _ _ => []
  | .tStmia rb list => blockStores (blockPlan false true (st.reg (lowReg rb)) (lowList list))
  | .tLdmia _ _ => []
  | .tBcond0xxx _ _ => []
  | .tBcond10xx _ _ => []
  | .tBcond110x _ _ => []
  | .tSwi _ => []
  | .tB _ => []
  | .tBlPrefix _ => []
  | .tBlSuffix _ => []
  | .tUndef10110001 _ => []
  | .tUndef1011001x _ => []
  | .tUndef1011011x _ => []
  | .tUndef101110xx _ => []
  | .tUndef1011111x _ => []
  | .tUndef11011110 _ => []
  | .tUndef11101 _ => []

/-! ## The UNPREDICTABLE cases (93_implementation_defined.md §1.1) -/

/-- A case, when it applies. -/
def caseIf (b : Bool) (c : UnpredCase) : List UnpredCase := if b then [c] else []

/-- A use of the SPSR in User or System mode (10_state.md R63). -/
def spsrCase (b : Bool) (st : State) : List UnpredCase := caseIf (b && st.cpu.noSpsr) .spsrInUserSystem

/-- R15 among the registers of a multiply (41_arm_multiply.md R312). -/
def multiplyCases (l : List RegNum) : List UnpredCase := caseIf (l.contains 15#4) .multiplyR15

/-- The overlaps of a long multiply (41_arm_multiply.md R312). -/
def longCases (rdHi rdLo rm : RegNum) : List UnpredCase :=
  caseIf (rdHi == rdLo) .mullRdHiRdLo ++ caseIf (rdHi == rm || rdLo == rm) .mullRdRm

/-- The cases of SWP and SWPB (43_arm_loadstore.md R372, R373). -/
def swapCases (rn rd rm : RegNum) : List UnpredCase :=
  caseIf ([rn, rd, rm].contains 15#4) .swpR15 ++ caseIf (rn == rm || rn == rd) .swpOverlap

/-- The cases of MSR but for its source register (42_arm_psr_branch.md R331): the SPSR in User and System mode; a control
field with a valid mode that would change T. -/
def msrCases (r : Bool) (mask : BitVec 4) (v : Word) (st : State) : List UnpredCase :=
  spsrCase r st ++
    caseIf (!r && mask.getLsbD 0 && st.cpu.cpsr.m != 0b10000#5 && modeValid (v.extractLsb' 0 5) &&
      v.getLsbD 5 != st.cpu.cpsr.t) .msrWritesT

/-- Write-back to R15 (43_arm_loadstore.md R352). -/
def storeCases (wb : Bool) (rn : RegNum) : List UnpredCase := caseIf (wb && rn == 15#4) .writeBackR15

/-- The same, and a load of the base that is written back (43_arm_loadstore.md R353). -/
def loadCases (wb : Bool) (rn rd : RegNum) : List UnpredCase :=
  storeCases wb rn ++ caseIf (wb && rd == rn) .loadWriteBackRd

/-- The cases of a block transfer with `S = 1` (43_arm_loadstore.md R370, R371); `user`: it reaches the User bank. -/
def blockCases (user w : Bool) (rn : RegNum) (st : State) : List UnpredCase :=
  caseIf st.cpu.noSpsr .sBitUserSystem ++ caseIf (rn == 15#4) .blockBaseR15 ++
    caseIf (!st.cpu.noSpsr && user && w) .userBankWriteBack

/-- The UNPREDICTABLE cases that hold of an instruction in a state (93_implementation_defined.md §1.1). -/
def Instr.unpredictableCases (i : Instr) (st : State) : List UnpredCase :=
  match i with
  | .andShi _ s _ rd _ _ _ => spsrCase (s && rd == 15#4) st
  | .andShr _ s _ rd rs _ _ => caseIf (rs == 15#4) .shiftByR15 ++ caseIf (rd == 15#4) .regShiftWritesR15 ++ spsrCase (s && rd == 15#4) st
  | .andImm _ s _ rd _ _ => spsrCase (s && rd == 15#4) st
  | .eorShi _ s _ rd _ _ _ => spsrCase (s && rd == 15#4) st
  | .eorShr _ s _ rd rs _ _ => caseIf (rs == 15#4) .shiftByR15 ++ caseIf (rd == 15#4) .regShiftWritesR15 ++ spsrCase (s && rd == 15#4) st
  | .eorImm _ s _ rd _ _ => spsrCase (s && rd == 15#4) st
  | .subShi _ s _ rd _ _ _ => spsrCase (s && rd == 15#4) st
  | .subShr _ s _ rd rs _ _ => caseIf (rs == 15#4) .shiftByR15 ++ caseIf (rd == 15#4) .regShiftWritesR15 ++ spsrCase (s && rd == 15#4) st
  | .subImm _ s _ rd _ _ => spsrCase (s && rd == 15#4) st
  | .rsbShi _ s _ rd _ _ _ => spsrCase (s && rd == 15#4) st
  | .rsbShr _ s _ rd rs _ _ => caseIf (rs == 15#4) .shiftByR15 ++ caseIf (rd == 15#4) .regShiftWritesR15 ++ spsrCase (s && rd == 15#4) st
  | .rsbImm _ s _ rd _ _ => spsrCase (s && rd == 15#4) st
  | .addShi _ s _ rd _ _ _ => spsrCase (s && rd == 15#4) st
  | .addShr _ s _ rd rs _ _ => caseIf (rs == 15#4) .shiftByR15 ++ caseIf (rd == 15#4) .regShiftWritesR15 ++ spsrCase (s && rd == 15#4) st
  | .addImm _ s _ rd _ _ => spsrCase (s && rd == 15#4) st
  | .adcShi _ s _ rd _ _ _ => spsrCase (s && rd == 15#4) st
  | .adcShr _ s _ rd rs _ _ => caseIf (rs == 15#4) .shiftByR15 ++ caseIf (rd == 15#4) .regShiftWritesR15 ++ spsrCase (s && rd == 15#4) st
  | .adcImm _ s _ rd _ _ => spsrCase (s && rd == 15#4) st
  | .sbcShi _ s _ rd _ _ _ => spsrCase (s && rd == 15#4) st
  | .sbcShr _ s _ rd rs _ _ => caseIf (rs == 15#4) .shiftByR15 ++ caseIf (rd == 15#4) .regShiftWritesR15 ++ spsrCase (s && rd == 15#4) st
  | .sbcImm _ s _ rd _ _ => spsrCase (s && rd == 15#4) st
  | .rscShi _ s _ rd _ _ _ => spsrCase (s && rd == 15#4) st
  | .rscShr _ s _ rd rs _ _ => caseIf (rs == 15#4) .shiftByR15 ++ caseIf (rd == 15#4) .regShiftWritesR15 ++ spsrCase (s && rd == 15#4) st
  | .rscImm _ s _ rd _ _ => spsrCase (s && rd == 15#4) st
  | .tstShr _ _ rs _ _ => caseIf (rs == 15#4) .shiftByR15
  | .teqShr _ _ rs _ _ => caseIf (rs == 15#4) .shiftByR15
  | .cmpShr _ _ rs _ _ => caseIf (rs == 15#4) .shiftByR15
  | .cmnShr _ _ rs _ _ => caseIf (rs == 15#4) .shiftByR15
  | .orrShi _ s _ rd _ _ _ => spsrCase (s && rd == 15#4) st
  | .orrShr _ s _ rd rs _ _ => caseIf (rs == 15#4) .shiftByR15 ++ caseIf (rd == 15#4) .regShiftWritesR15 ++ spsrCase (s && rd == 15#4) st
  | .orrImm _ s _ rd _ _ => spsrCase (s && rd == 15#4) st
  | .movShi _ s rd _ _ _ => spsrCase (s && rd == 15#4) st
  | .movShr _ s rd rs _ _ => caseIf (rs == 15#4) .shiftByR15 ++ caseIf (rd == 15#4) .regShiftWritesR15 ++ spsrCase (s && rd == 15#4) st
  | .movImm _ s rd _ _ => spsrCase (s && rd == 15#4) st
  | .bicShi _ s _ rd _ _ _ => spsrCase (s && rd == 15#4) st
  | .bicShr _ s _ rd rs _ _ => caseIf (rs == 15#4) .shiftByR15 ++ caseIf (rd == 15#4) .regShiftWritesR15 ++ spsrCase (s && rd == 15#4) st
  | .bicImm _ s _ rd _ _ => spsrCase (s && rd == 15#4) st
  | .mvnShi _ s rd _ _ _ => spsrCase (s && rd == 15#4) st
  | .mvnShr _ s rd rs _ _ => caseIf (rs == 15#4) .shiftByR15 ++ caseIf (rd == 15#4) .regShiftWritesR15 ++ spsrCase (s && rd == 15#4) st
  | .mvnImm _ s rd _ _ => spsrCase (s && rd == 15#4) st
  | .mul _ _ rd rs rm => multiplyCases [rd, rs, rm] ++ caseIf (rd == rm) .mulRdRm
  | .mla _ _ rd rn rs rm => multiplyCases [rd, rn, rs, rm] ++ caseIf (rd == rm) .mulRdRm
  | .umull _ _ rdHi rdLo rs rm => multiplyCases [rdHi, rdLo, rs, rm] ++ longCases rdHi rdLo rm
  | .umlal _ _ rdHi rdLo rs rm => multiplyCases [rdHi, rdLo, rs, rm] ++ longCases rdHi rdLo rm
  | .smull _ _ rdHi rdLo rs rm => multiplyCases [rdHi, rdLo, rs, rm] ++ longCases rdHi rdLo rm
  | .smlal _ _ rdHi rdLo rs rm => multiplyCases [rdHi, rdLo, rs, rm] ++ longCases rdHi rdLo rm
  | .swp _ rn rd rm => swapCases rn rd rm
  | .swpb _ rn rd rm => swapCases rn rd rm
  | .mrs _ r rd => caseIf (rd == 15#4) .mrsToR15 ++ spsrCase r st
  | .msrReg _ r mask rm => caseIf (rm == 15#4) .msrFromR15 ++ msrCases r mask (st.reg rm) st
  | .msrImm _ r mask rotate imm8 => msrCases r mask ((imm8.zeroExtend 32).rotateRight (2 * rotate.toNat)) st
  | .strhReg _ p _ w rn rd rm => caseIf (!p && w) .halfPostIndexW ++ caseIf (rm == 15#4) .offsetR15 ++ storeCases (!p || w) rn ++ caseIf (rd == 15#4) .strhOfR15
  | .strhImm _ p _ w rn rd _ _ => caseIf (!p && w) .halfPostIndexW ++ storeCases (!p || w) rn ++ caseIf (rd == 15#4) .strhOfR15
  | .ldrhReg _ p _ w rn rd rm => caseIf (!p && w) .halfPostIndexW ++ caseIf (rm == 15#4) .offsetR15 ++ loadCases (!p || w) rn rd ++ caseIf (rd == 15#4) .ldrhToR15
  | .ldrhImm _ p _ w rn rd _ _ => caseIf (!p && w) .halfPostIndexW ++ loadCases (!p || w) rn rd ++ caseIf (rd == 15#4) .ldrhToR15
  | .ldrsbReg _ p _ w rn rd rm => caseIf (!p && w) .halfPostIndexW ++ caseIf (rm == 15#4) .offsetR15 ++ loadCases (!p || w) rn rd ++ caseIf (rd == 15#4) .ldrsbToR15
  | .ldrsbImm _ p _ w rn rd _ _ => caseIf (!p && w) .halfPostIndexW ++ loadCases (!p || w) rn rd ++ caseIf (rd == 15#4) .ldrsbToR15
  | .ldrshReg _ p _ w rn rd rm => caseIf (!p && w) .halfPostIndexW ++ caseIf (rm == 15#4) .offsetR15 ++ loadCases (!p || w) rn rd ++ caseIf (rd == 15#4) .ldrshToR15
  | .ldrshImm _ p _ w rn rd _ _ => caseIf (!p && w) .halfPostIndexW ++ loadCases (!p || w) rn rd ++ caseIf (rd == 15#4) .ldrshToR15
  | .strImmPre _ _ w rn _ _ => storeCases w rn
  | .strImmPost _ _ rn _ _ => storeCases true rn
  | .strtImm _ _ rn _ _ => storeCases true rn
  | .strRegPre _ _ w rn _ _ _ rm => caseIf (rm == 15#4) .offsetR15 ++ storeCases w rn
  | .strRegPost _ _ rn _ _ _ rm => caseIf (rm == 15#4) .offsetR15 ++ storeCases true rn
  | .strtReg _ _ rn _ _ _ rm => caseIf (rm == 15#4) .offsetR15 ++ storeCases true rn
  | .ldrImmPre _ _ w rn rd _ => loadCases w rn rd
  | .ldrImmPost _ _ rn rd _ => loadCases true rn rd
  | .ldrtImm _ _ rn rd _ => loadCases true rn rd
  | .ldrRegPre _ _ w rn rd _ _ rm => caseIf (rm == 15#4) .offsetR15 ++ loadCases w rn rd
  | .ldrRegPost _ _ rn rd _ _ rm => caseIf (rm == 15#4) .offsetR15 ++ loadCases true rn rd
  | .ldrtReg _ _ rn rd _ _ rm => caseIf (rm == 15#4) .offsetR15 ++ loadCases true rn rd
  | .strbImmPre _ _ w rn rd _ => storeCases w rn ++ caseIf (rd == 15#4) .strbOfR15
  | .strbImmPost _ _ rn rd _ => storeCases true rn ++ caseIf (rd == 15#4) .strbOfR15
  | .strbtImm _ _ rn rd _ => storeCases true rn ++ caseIf (rd == 15#4) .strbOfR15
  | .strbRegPre _ _ w rn rd _ _ rm => caseIf (rm == 15#4) .offsetR15 ++ storeCases w rn ++ caseIf (rd == 15#4) .strbOfR15
  | .strbRegPost _ _ rn rd _ _ rm => caseIf (rm == 15#4) .offsetR15 ++ storeCases true rn ++ caseIf (rd == 15#4) .strbOfR15
  | .strbtReg _ _ rn rd _ _ rm => caseIf (rm == 15#4) .offsetR15 ++ storeCases true rn ++ caseIf (rd == 15#4) .strbOfR15
  | .ldrbImmPre _ _ w rn rd _ => loadCases w rn rd ++ caseIf (rd == 15#4) .ldrbToR15
  | .ldrbImmPost _ _ rn rd _ => loadCases true rn rd ++ caseIf (rd == 15#4) .ldrbToR15
  | .ldrbtImm _ _ rn rd _ => loadCases true rn rd ++ caseIf (rd == 15#4) .ldrbToR15
  | .ldrbRegPre _ _ w rn rd _ _ rm => caseIf (rm == 15#4) .offsetR15 ++ loadCases w rn rd ++ caseIf (rd == 15#4) .ldrbToR15
  | .ldrbRegPost _ _ rn rd _ _ rm => caseIf (rm == 15#4) .offsetR15 ++ loadCases true rn rd ++ caseIf (rd == 15#4) .ldrbToR15
  | .ldrbtReg _ _ rn rd _ _ rm => caseIf (rm == 15#4) .offsetR15 ++ loadCases true rn rd ++ caseIf (rd == 15#4) .ldrbToR15
  | .stm _ _ _ _ rn _ => caseIf (rn == 15#4) .blockBaseR15
  | .ldm _ _ _ _ rn _ => caseIf (rn == 15#4) .blockBaseR15
  | .stmS _ _ _ w rn _ => blockCases true w rn st
  | .ldmS _ _ _ w rn list => blockCases (!listHasPc list) w rn st
  | .tAddHi h1 h2 _ _ => caseIf (!h1 && !h2) .format5TwoLow
  | .tCmpHi h1 h2 _ _ => caseIf (!h1 && !h2) .format5TwoLow
  | .tMovHi h1 h2 _ _ => caseIf (!h1 && !h2) .format5TwoLow
  | .tBx h1 _ _ _ => caseIf h1 .thumbBxH1
  | _ => []

/-! ## Shapes of instructions -/

/-- How a word or byte transfer addresses: pre-indexed, post-indexed, or the T form. -/
inductive SingleForm where
  | pre (w : Bool)
  | post
  | translated
  deriving DecidableEq, Repr

/-- The addressing of a form (43_arm_loadstore.md R352, R361). -/
def SingleForm.indexing (x : SingleForm) (u : Bool) : Indexing :=
  match x with
  | .pre w => .preIndexed u w
  | .post => .postIndexed u
  | .translated => .postIndexed u

/-- The widths of a single transfer. -/
inductive SingleWidth where
  | word | byte
  deriving DecidableEq, Repr

/-- The load of a width. -/
def SingleWidth.load : SingleWidth → LoadKind
  | .word => .word
  | .byte => .byte

/-- The access of a width. -/
def SingleWidth.width : SingleWidth → Width
  | .word => .word
  | .byte => .byte

/-- LDR, LDRB, LDRT, LDRBT with an immediate offset. -/
def Instr.loadImm (k : SingleWidth) (x : SingleForm) (c : Cond) (u : Bool) (rn rd : RegNum) (o : BitVec 12) : Instr :=
  match k, x with
  | .word, .pre w => .ldrImmPre c u w rn rd o
  | .word, .post => .ldrImmPost c u rn rd o
  | .word, .translated => .ldrtImm c u rn rd o
  | .byte, .pre w => .ldrbImmPre c u w rn rd o
  | .byte, .post => .ldrbImmPost c u rn rd o
  | .byte, .translated => .ldrbtImm c u rn rd o

/-- LDR, LDRB, LDRT, LDRBT with a register offset. -/
def Instr.loadReg (k : SingleWidth) (x : SingleForm) (c : Cond) (u : Bool) (rn rd : RegNum) (n : BitVec 5)
    (t : ShiftKind) (rm : RegNum) : Instr :=
  match k, x with
  | .word, .pre w => .ldrRegPre c u w rn rd n t rm
  | .word, .post => .ldrRegPost c u rn rd n t rm
  | .word, .translated => .ldrtReg c u rn rd n t rm
  | .byte, .pre w => .ldrbRegPre c u w rn rd n t rm
  | .byte, .post => .ldrbRegPost c u rn rd n t rm
  | .byte, .translated => .ldrbtReg c u rn rd n t rm

/-- STR, STRB, STRT, STRBT with an immediate offset. -/
def Instr.storeImm (k : SingleWidth) (x : SingleForm) (c : Cond) (u : Bool) (rn rd : RegNum) (o : BitVec 12) : Instr :=
  match k, x with
  | .word, .pre w => .strImmPre c u w rn rd o
  | .word, .post => .strImmPost c u rn rd o
  | .word, .translated => .strtImm c u rn rd o
  | .byte, .pre w => .strbImmPre c u w rn rd o
  | .byte, .post => .strbImmPost c u rn rd o
  | .byte, .translated => .strbtImm c u rn rd o

/-- STR, STRB, STRT, STRBT with a register offset. -/
def Instr.storeReg (k : SingleWidth) (x : SingleForm) (c : Cond) (u : Bool) (rn rd : RegNum) (n : BitVec 5)
    (t : ShiftKind) (rm : RegNum) : Instr :=
  match k, x with
  | .word, .pre w => .strRegPre c u w rn rd n t rm
  | .word, .post => .strRegPost c u rn rd n t rm
  | .word, .translated => .strtReg c u rn rd n t rm
  | .byte, .pre w => .strbRegPre c u w rn rd n t rm
  | .byte, .post => .strbRegPost c u rn rd n t rm
  | .byte, .translated => .strbtReg c u rn rd n t rm

/-- The loads of the halfword and signed formats. -/
inductive HalfLoad where
  | half | signedByte | signedHalf
  deriving DecidableEq, Repr

/-- The load of a kind. -/
def HalfLoad.load : HalfLoad → LoadKind
  | .half => .half
  | .signedByte => .signedByte
  | .signedHalf => .signedHalf

/-- LDRH, LDRSB, LDRSH with an immediate offset. -/
def Instr.loadHalfImm (k : HalfLoad) (c : Cond) (p u w : Bool) (rn rd : RegNum) (immH immL : BitVec 4) : Instr :=
  match k with
  | .half => .ldrhImm c p u w rn rd immH immL
  | .signedByte => .ldrsbImm c p u w rn rd immH immL
  | .signedHalf => .ldrshImm c p u w rn rd immH immL

/-- LDRH, LDRSB, LDRSH with a register offset. -/
def Instr.loadHalfReg (k : HalfLoad) (c : Cond) (p u w : Bool) (rn rd rm : RegNum) : Instr :=
  match k with
  | .half => .ldrhReg c p u w rn rd rm
  | .signedByte => .ldrsbReg c p u w rn rd rm
  | .signedHalf => .ldrshReg c p u w rn rd rm

/-- The four long multiplies. -/
def Instr.mulLong (signed acc : Bool) (c : Cond) (s : Bool) (rdHi rdLo rs rm : RegNum) : Instr :=
  match signed, acc with
  | false, false => .umull c s rdHi rdLo rs rm
  | false, true => .umlal c s rdHi rdLo rs rm
  | true, false => .smull c s rdHi rdLo rs rm
  | true, true => .smlal c s rdHi rdLo rs rm

/-- The instructions that raise UndefinedInstruction (44_arm_system.md R401..R405). -/
def Instr.raisesUndefined : Instr → Bool
  | .swi _ _ => false
  | .tSwi _ => false
  | i => i.effects == Effects.traps

/-- The instructions that raise SoftwareInterrupt (60_exceptions.md R560). -/
def Instr.raisesSwi : Instr → Bool
  | .swi _ _ => true
  | .tSwi _ => true
  | _ => false

/-- Whether the word of a data-processing row sets the flags: TST, TEQ, CMP and CMN always do (40_arm_dataproc.md
R276). -/
def DpOp.setsFlags (op : DpOp) (s : Bool) : Bool := s || !dpWritesRd op

end Sys2Proof

namespace Sys2Proof.Machine

open Sys2Proof

/-! ## The bytes a store can reach (20_memory.md R107, R111..R113, R115, R118, R119) -/

/-- `len` keys from `lo` on. -/
def within (lo len k : Nat) : Bool := lo ≤ k && k < lo + len

/-- Whether a store of a width at an address may change the byte with the key `k`.  A byte to palette RAM or to the
background part of VRAM goes to both bytes of its halfword; a byte to OAM or to the object part of VRAM is
dropped; the BIOS and the ROM are read-only; an I/O write reaches no byte array. -/
def Sys.storeTouches (y : Sys) (w : Width) (addr : Word) (k : Nat) : Bool :=
  let a := w.align addr
  match Region.of a with
  | .bios => false
  | .ewram => within (ewramKey (a.toNat % 0x40000)) w.bytes k
  | .iwram => within (iwramKey (a.toNat % 0x8000)) w.bytes k
  | .io => false
  | .palette =>
      if w = .byte then within (pramKey (a.toNat % 0x400 / 2 * 2)) 2 k else within (pramKey (a.toNat % 0x400)) w.bytes k
  | .vram =>
      if w = .byte then decide (vramOffset a < objBase y.ppu.dispcnt) && within (vramKey (vramOffset a / 2 * 2)) 2 k
      else within (vramKey (vramOffset a)) w.bytes k
  | .oam => decide (w ≠ .byte) && within (oamKey (a.toNat % 0x400)) w.bytes k
  | .rom _ => y.inEepromWindow a && within (eepromKey 0) 0x2000 k
  | .backup =>
      match y.params.backup with
      | .sram => k == sramKey (a.toNat % 0x8000)
      | .flash64k => within (flashKey 0) 0x20000 k
      | .flash128k => within (flashKey 0) 0x20000 k
      | .none => false
      | .eeprom => false
      | .eeprom512 => false
      | .eeprom8k => false
  | .unmapped => false

/-- Whether the bus stops on a store: only a write that asks for STOP or that arms DMA3 with video capture does
(60_exceptions.md R575, 61_timers_dma.md R622). -/
def Sys.storeStops (y : Sys) (w : Width) (addr v : Word) : Bool :=
  match y.store .nonseq w addr v with
  | .ok _ => false
  | .error _ => true

/-- Keys of the BIOS and ROM images, which no step writes (20_memory.md R107, R115; 10_state.md R76). -/
def readOnlyKey (k : Nat) : Bool := within (biosKey 0) Config.biosSize k || within (romKey 0) 0x2000000 k

/-! ## Invariants of a safe run -/

/-- The memory list and the storage registers are in canonical form, so that equal memories are equal data. -/
def State.memoryCanonical (s : State) : Prop :=
  Memory.wf s.sys.mem ∧ Sparse.wf (fun _ => 0#16) s.sys.storage

/-- The mode is one of the seven (10_state.md R61) and the program counter is aligned for the state of T
(10_state.md R51). -/
def Cpu.legal (c : Cpu) : Prop := modeValid c.cpsr.m = true ∧ alignPc c.cpsr.t c.pc = c.pc

/-- The order in which entries are dispatched: by cycle, then by insertion (61_timers_dma.md R602). -/
def Event.before (x y : Event) : Prop := x.cycle < y.cycle ∨ (x.cycle = y.cycle ∧ x.seq < y.seq)

/-- The event queue is in dispatch order, every entry was inserted before the next insertion, and each kind is
queued at most once (61_timers_dma.md R602). -/
def Sys.queueOrdered (y : Sys) : Prop :=
  y.events.Pairwise Event.before ∧ (∀ e ∈ y.events, e.seq < y.nextSeq) ∧
    y.events.Pairwise (fun a b => a.kind ≠ b.kind)

/-- How many entries of a kind are queued. -/
def Sys.queued (y : Sys) (k : EventKind) : Nat := y.events.countP (fun e => e.kind = k)

/-- The PPU has exactly one event in the queue, the one its phase names, at the cycle where line `n` of all lines since
power-on ends its HDraw or ends, `n` being the current line modulo 228 (62_ppu.md R671); and the V-Blank and
H-Blank flags say where the PPU is (62_ppu.md R673..R675, R677). -/
def Sys.ppuCoherent (y : Sys) : Prop :=
  y.queued .hdrawEnd = (if y.ppu.phase = .hdraw then 1 else 0) ∧
  y.queued .lineEnd = (if y.ppu.phase = .hblank then 1 else 0) ∧
  y.ppu.dispstat.getLsbD 1 = decide (y.ppu.phase = .hblank) ∧
  y.ppu.dispstat.getLsbD 0 = decide (160 ≤ y.ppu.vcount.val ∧ y.ppu.vcount.val < 227) ∧
  (∀ e ∈ y.events, e.kind = .hdrawEnd → ∃ n, e.cycle = 1232 * n + 1006 ∧ n % 228 = y.ppu.vcount.val) ∧
  (∀ e ∈ y.events, e.kind = .lineEnd → ∃ n, e.cycle = 1232 * n + 1232 ∧ n % 228 = y.ppu.vcount.val)

/-- The reserved bits of the interrupt, keypad and wait-state registers are 0, and no sound FIFO holds more than 32
bytes (60_exceptions.md R566, R567; 61_timers_dma.md R650, R660, R661; 20_memory.md R123). -/
def Sys.reservedClear (y : Sys) : Prop :=
  y.ie &&& 0xC000#16 = 0#16 ∧ y.iflag &&& 0xC000#16 = 0#16 ∧ y.keyinput &&& 0xFC00#16 = 0#16 ∧
  y.keycnt &&& 0x3C00#16 = 0#16 ∧ y.waitcnt &&& 0xA000#16 = 0#16 ∧
  y.fifoA.queue.length ≤ 32 ∧ y.fifoB.queue.length ≤ 32

/-! ## Parts of a next state -/

/-- The CPU after an instruction that writes `Rd` of the current view and the CPSR and goes on to the next
instruction. -/
def Cpu.wrote (c : Cpu) (rd : RegNum) (v : Word) (p : Psr) : Cpu :=
  { c with regs := c.regs.set (physIndex c.bank rd) v, cpsr := p, pc := c.pc + widthOf c.cpsr.t }

/-- The CPU after an instruction that writes the CPSR's flags only and goes on. -/
def Cpu.flagged (c : Cpu) (p : Psr) : Cpu := { c with cpsr := p, pc := c.pc + widthOf c.cpsr.t }

/-- The CPU with the base of a transfer moved, when it is written back. -/
def Cpu.based (c : Cpu) (wb : Bool) (rn : RegNum) (v : Word) : Cpu :=
  if wb then { c with regs := c.regs.set (physIndex c.bank rn) v } else c

/-- The system with cycles charged. -/
def Sys.paid (y : Sys) (n : Nat) : Sys := { y with cost := y.cost + n }

/-- The CPU after a refill: the program counter and the two words fetched at it. -/
def Cpu.refilled (c : Cpu) (pc p0 p1 : Word) : Cpu := { c with pc := pc, pipe0 := p0, pipe1 := p1 }

/-- Whether a fetch at an address reads a byte array only: not the gated BIOS, the I/O registers, the open bus or the
EEPROM window (20_memory.md R106). -/
def Sys.plainFetch (y : Sys) (a : Word) : Bool :=
  match Region.of a with
  | .ewram => true
  | .iwram => true
  | .palette => true
  | .vram => true
  | .oam => true
  | .backup => true
  | .rom _ => !y.inEepromWindow a
  | .bios => false
  | .io => false
  | .unmapped => false

/-! ## Block transfers (43_arm_loadstore.md R367) -/

/-- How many listed registers have a lower number: the place of a register in the block. -/
def rankIn (list : BitVec 16) (r : RegNum) : Nat := ((List.range r.toNat).filter (fun k => list.getLsbD k)).length

/-- The address of a listed register: ascending registers at ascending addresses. -/
def blockAddress (start : Word) (list : BitVec 16) (r : RegNum) : Word := start + BitVec.ofNat 32 (4 * rankIn list r)

/-- The cost of `n` word accesses at ascending addresses, the first N and the rest S (20_memory.md R124). -/
def blockCost (waitcnt : Half) (start : Word) (n : Nat) : Nat :=
  ((List.range n).map (fun k =>
    accessCost waitcnt (if k = 0 then .nonseq else .seq) .word (start + BitVec.ofNat 32 (4 * k)))).sum

/-- No access of a block lies in the EEPROM window. -/
def Sys.blockPlain (y : Sys) (start : Word) (n : Nat) : Bool :=
  (List.range n).all (fun k => !y.inEepromWindow (Width.word.align (start + BitVec.ofNat 32 (4 * k))))

/-- No access of a block lies in the I/O region. -/
def blockOutsideIo (start : Word) (n : Nat) : Bool :=
  (List.range n).all (fun k => Region.of (Width.word.align (start + BitVec.ofNat 32 (4 * k))) != .io)

/-- The word a load-multiple reads for a listed register: no rotation (43_arm_loadstore.md R367). -/
def Sys.blockWord (y : Sys) (start : Word) (list : BitVec 16) (r : RegNum) : Word :=
  y.peekAligned .word (Width.word.align (blockAddress start list r))

/-- `t` is `s` after the reads and register writes of a load-multiple of `list` from `start` into the view `b`, with the
base `rn` of the current view moved when `wb` holds and not loaded; R15 is not among them (43_arm_loadstore.md R367, R369,
R370). -/
structure LoadedFrom (b : Bank) (start moved : Word) (list : BitVec 16) (n : Nat) (wb : Bool) (rn : RegNum)
    (s t : State) : Prop where
  loaded : ∀ r : RegNum, r ≠ 15#4 → list.getLsbD r.toNat = true → t.cpu.bankReg b r = s.sys.blockWord start list r
  base   : wb = true → rn ≠ 15#4 →
    (∀ r : RegNum, r ≠ 15#4 → list.getLsbD r.toNat = true → physIndex b r ≠ physIndex s.cpu.bank rn) →
    t.cpu.bankReg s.cpu.bank rn = moved
  others : ∀ k : Fin 30, (∀ r : RegNum, r ≠ 15#4 → list.getLsbD r.toNat = true → k ≠ physIndex b r) →
    (wb = true → rn ≠ 15#4 → k ≠ physIndex s.cpu.bank rn) → t.cpu.regs[k] = s.cpu.regs[k]
  rest   : t.cpu = { s.cpu with regs := t.cpu.regs }
  system : t.sys = s.sys.paid (blockCost s.sys.waitcnt start n + 1)

/-! ## THUMB results -/

/-- The state after a THUMB operation on low registers that sets the flags (45_thumb_alu.md R420). -/
def State.thumbDone (op : DpOp) (rd : LowReg) (a b : Word) (sc : Bool) (s : State) : State :=
  let r := dpCompute op a b s.cpu.cpsr.c s.cpu.cpsr.v sc
  let p := s.cpu.cpsr.setNzcv r
  { s with cpu := if dpWritesRd op then s.cpu.wrote (lowReg rd) r.result p else s.cpu.flagged p }

/-- The state after a THUMB load of a low register: one N access and one internal cycle (46_thumb_mem.md). -/
def State.thumbLoaded (k : LoadKind) (rd : LowReg) (a : Word) (s : State) : State :=
  let r := s.sys.load .nonseq (k.width a) a
  { cpu := s.cpu.wrote (lowReg rd) (k.extract a r.1) s.cpu.cpsr, sys := r.2.paid 1 }

end Sys2Proof.Machine
end

