-- ==== Sys2Proof/Certificates/Slice0/Obligations.lean ====
section
/-! DEFINITION. The statements about the machine, one `def Obligations.<Name> : Prop` each; OBLIGATIONS.json lists
them with the rules of spec/ they formalise. -/

open Sys2Proof Sys2Proof.Machine

/-! ## Encoding -/

/-- 30_encoding.md R217, for the ARM rows: decoding the bytes of the encoding of a well-formed instruction gives the
instruction back, with every operand, and leaves the bytes after it. -/
def Obligations.DecodeEncodeArm : Prop :=
  ∀ (i : Instr) (w : Word) (rest : List Byte), i.wellFormed = true → encode i = .arm w →
    decode false ((encode i).bytes ++ rest) = .ok (i, rest)

/-- 30_encoding.md R217, for the THUMB rows. -/
def Obligations.DecodeEncodeThumb : Prop :=
  ∀ (i : Instr) (h : Half) (rest : List Byte), i.wellFormed = true → encode i = .thumb h →
    decode true ((encode i).bytes ++ rest) = .ok (i, rest)

/-- 30_encoding.md R217: every THUMB halfword is its own canonical encoding. -/
def Obligations.EncodeDecodeThumb : Prop := ∀ h : Half, encode (decodeThumb h) = .thumb h

/-- 30_encoding.md R207, R208, R212, R213: every word and every halfword decodes to an instruction that is well formed,
so that a word decoded as undefined lies in the space of the row it names. -/
def Obligations.DecodedWellFormed : Prop :=
  (∀ w : Word, (decodeArm w).wellFormed = true) ∧ (∀ h : Half, (decodeThumb h).wellFormed = true)

/-- Words written out from the spec's own examples decode to the instructions they stand for. -/
def Obligations.DecodeSamples : Prop :=
  decodeArm 0xE0310002#32 = .eorShi .al true 1#4 0#4 0#5 .lsl 2#4 ∧
  decodeArm 0xE1A00211#32 = .movShr .al false 0#4 2#4 .lsl 1#4 ∧
  decodeArm 0xE3110102#32 = .tstImm .al 1#4 1#4 2#8 ∧
  decodeArm 0xE0F10392#32 = .smlal .al true 1#4 0#4 3#4 2#4 ∧
  decodeArm 0xE328F20F#32 = .msrImm .al false 8#4 2#4 15#8 ∧
  decodeArm 0xEAFFFFFE#32 = .b .al 0xFFFFFE#24 ∧
  decodeArm 0xE04100B6#32 = .strhImm .al false false false 1#4 0#4 0#4 6#4 ∧
  decodeArm 0xE7910102#32 = .ldrRegPre .al true false 1#4 0#4 2#5 .lsl 2#4 ∧
  decodeArm 0xE8FD900F#32 = .ldmS .al false true true 13#4 0x900F#16 ∧
  decodeArm 0xEE100F10#32 = .mrcMcr .al 0#3 true 0#4 0#4 15#4 0#3 0#4 ∧
  decodeArm 0xE7F000F0#32 = .undefMedia 0xE7F000F0#32 ∧
  decodeThumb 0x0088#16 = .tLslImm 2#5 1#3 0#3 ∧
  decodeThumb 0x4480#16 = .tAddHi true false 0#3 0#3 ∧
  decodeThumb 0x5E88#16 = .tLdshReg 2#3 1#3 0#3 ∧
  decodeThumb 0xB501#16 = .tPush true 1#8 ∧
  decodeThumb 0xD0FE#16 = .tBcond0xxx .eq 0xFE#8 ∧
  decodeThumb 0xF000#16 = .tBlPrefix 0#11 ∧
  decodeThumb 0xFFFE#16 = .tBlSuffix 0x7FE#11

/-- 30_encoding.md R209: the should-be-zero and should-be-one fields of every row that has them are ignored, whatever
they hold. -/
def Obligations.IgnoredFields : Prop :=
  (∀ (c : Cond) (n k : BitVec 4) (o : BitVec 5) (t : ShiftKind) (m : BitVec 4),
    decodeArm (c.bits ++ 0b00010001#8 ++ n ++ k ++ o ++ t.bits ++ 0#1 ++ m) = .tstShi c n o t m ∧
    decodeArm (c.bits ++ 0b00010011#8 ++ n ++ k ++ o ++ t.bits ++ 0#1 ++ m) = .teqShi c n o t m ∧
    decodeArm (c.bits ++ 0b00010101#8 ++ n ++ k ++ o ++ t.bits ++ 0#1 ++ m) = .cmpShi c n o t m ∧
    decodeArm (c.bits ++ 0b00010111#8 ++ n ++ k ++ o ++ t.bits ++ 0#1 ++ m) = .cmnShi c n o t m ∧
    (∀ s : Bool,
      decodeArm (c.bits ++ 0b0001101#7 ++ BitVec.ofBool s ++ k ++ n ++ o ++ t.bits ++ 0#1 ++ m) = .movShi c s n o t m ∧
      decodeArm (c.bits ++ 0b0001111#7 ++ BitVec.ofBool s ++ k ++ n ++ o ++ t.bits ++ 0#1 ++ m) = .mvnShi c s n o t m)) ∧
  (∀ (c : Cond) (n k o : BitVec 4) (t : ShiftKind) (m : BitVec 4),
    decodeArm (c.bits ++ 0b00010001#8 ++ n ++ k ++ o ++ 0#1 ++ t.bits ++ 1#1 ++ m) = .tstShr c n o t m ∧
    decodeArm (c.bits ++ 0b00010011#8 ++ n ++ k ++ o ++ 0#1 ++ t.bits ++ 1#1 ++ m) = .teqShr c n o t m ∧
    decodeArm (c.bits ++ 0b00010101#8 ++ n ++ k ++ o ++ 0#1 ++ t.bits ++ 1#1 ++ m) = .cmpShr c n o t m ∧
    decodeArm (c.bits ++ 0b00010111#8 ++ n ++ k ++ o ++ 0#1 ++ t.bits ++ 1#1 ++ m) = .cmnShr c n o t m ∧
    (∀ s : Bool,
      decodeArm (c.bits ++ 0b0001101#7 ++ BitVec.ofBool s ++ k ++ n ++ o ++ 0#1 ++ t.bits ++ 1#1 ++ m) =
        .movShr c s n o t m ∧
      decodeArm (c.bits ++ 0b0001111#7 ++ BitVec.ofBool s ++ k ++ n ++ o ++ 0#1 ++ t.bits ++ 1#1 ++ m) =
        .mvnShr c s n o t m)) ∧
  (∀ (c : Cond) (n k r : BitVec 4) (v : BitVec 8),
    decodeArm (c.bits ++ 0b00110001#8 ++ n ++ k ++ r ++ v) = .tstImm c n r v ∧
    decodeArm (c.bits ++ 0b00110011#8 ++ n ++ k ++ r ++ v) = .teqImm c n r v ∧
    decodeArm (c.bits ++ 0b00110101#8 ++ n ++ k ++ r ++ v) = .cmpImm c n r v ∧
    decodeArm (c.bits ++ 0b00110111#8 ++ n ++ k ++ r ++ v) = .cmnImm c n r v ∧
    (∀ s : Bool,
      decodeArm (c.bits ++ 0b0011101#7 ++ BitVec.ofBool s ++ k ++ n ++ r ++ v) = .movImm c s n r v ∧
      decodeArm (c.bits ++ 0b0011111#7 ++ BitVec.ofBool s ++ k ++ n ++ r ++ v) = .mvnImm c s n r v ∧
      decodeArm (c.bits ++ 0b00110#5 ++ BitVec.ofBool s ++ 0b10#2 ++ n ++ k ++ r ++ v) = .msrImm c s n r v)) ∧
  (∀ (c : Cond) (s : Bool) (d k r m : BitVec 4),
    decodeArm (c.bits ++ 0b0000000#7 ++ BitVec.ofBool s ++ d ++ k ++ r ++ 0b1001#4 ++ m) = .mul c s d r m ∧
    decodeArm (c.bits ++ 0b00010000#8 ++ d ++ r ++ k ++ 0b1001#4 ++ m) = .swp c d r m ∧
    decodeArm (c.bits ++ 0b00010100#8 ++ d ++ r ++ k ++ 0b1001#4 ++ m) = .swpb c d r m) ∧
  (∀ (c : Cond) (s : Bool) (d k m : BitVec 4) (j : BitVec 8) (l : BitVec 12),
    decodeArm (c.bits ++ 0b00010#5 ++ BitVec.ofBool s ++ 0b00#2 ++ k ++ d ++ l.extractLsb' 8 4 ++ 0b0000#4 ++ m) =
      .mrs c s d ∧
    decodeArm (c.bits ++ 0b00010#5 ++ BitVec.ofBool s ++ 0b10#2 ++ d ++ j ++ 0b0000#4 ++ m) = .msrReg c s d m ∧
    decodeArm (c.bits ++ 0b00010010#8 ++ l ++ 0b0001#4 ++ m) = .bx c m) ∧
  (∀ (c : Cond) (p u w : Bool) (n d k m : BitVec 4),
    decodeArm (c.bits ++ 0#3 ++ BitVec.ofBool p ++ BitVec.ofBool u ++ 0#1 ++ BitVec.ofBool w ++ 0#1 ++ n ++ d ++ k ++
      0b1011#4 ++ m) = .strhReg c p u w n d m ∧
    decodeArm (c.bits ++ 0#3 ++ BitVec.ofBool p ++ BitVec.ofBool u ++ 0#1 ++ BitVec.ofBool w ++ 1#1 ++ n ++ d ++ k ++
      0b1011#4 ++ m) = .ldrhReg c p u w n d m ∧
    decodeArm (c.bits ++ 0#3 ++ BitVec.ofBool p ++ BitVec.ofBool u ++ 0#1 ++ BitVec.ofBool w ++ 1#1 ++ n ++ d ++ k ++
      0b1101#4 ++ m) = .ldrsbReg c p u w n d m ∧
    decodeArm (c.bits ++ 0#3 ++ BitVec.ofBool p ++ BitVec.ofBool u ++ 0#1 ++ BitVec.ofBool w ++ 1#1 ++ n ++ d ++ k ++
      0b1111#4 ++ m) = .ldrshReg c p u w n d m)

/-! ## The step and the conditions -/

/-- 10_state.md R52, 61_timers_dma.md R603: while the CPU runs, a step executes the instruction the word in `pipe0` decodes
to, after the fetch of `A + 2w` has shifted the pipeline; then time advances by the cost and the due events and
the interrupt check follow. -/
def Obligations.StepRunsDecoded : Prop :=
  (∀ (i : Instr) (w : Word) (s : State), i.wellFormed = true → encode i = .arm w → s.cpu.pipe0 = w →
    s.cpu.cpsr.t = false → s.sys.halted = false → s.sys.midDispatch = false →
    step s = (match exec i (s.rollFrame.fetchNext (fetchAccess i s.cpu.cpsr)) with
      | .next t => t.commit.runEvents
      | .fault f => .fault f
      | .refused r => .refused r)) ∧
  (∀ (i : Instr) (h : Half) (s : State), i.wellFormed = true → encode i = .thumb h →
    s.cpu.pipe0.extractLsb' 0 16 = h → s.cpu.cpsr.t = true → s.sys.halted = false → s.sys.midDispatch = false →
    step s = (match exec i (s.rollFrame.fetchNext (fetchAccess i s.cpu.cpsr)) with
      | .next t => t.commit.runEvents
      | .fault f => .fault f
      | .refused r => .refused r)) ∧
  (∀ (k : Access) (s : State), (s.fetchNext k).cpu =
    { s.cpu with pipe0 := s.cpu.pipe1,
                 pipe1 := (s.sys.fetch k s.cpu.cpsr.t
                   (s.cpu.pc + (if s.cpu.cpsr.t then 4#32 else 8#32))).1 })

/-- 30_encoding.md R206: an instruction whose condition fails has no effect but the sequential advance. -/
def Obligations.ConditionFails : Prop :=
  ∀ (i : Instr) (s : State), condHolds (instrCond i) s.cpu.cpsr = false →
    exec i s = .next { s with cpu := { s.cpu with pc := s.cpu.pc + (if s.cpu.cpsr.t then 2#32 else 4#32) } }

/-- 30_encoding.md R205 after a compare (40_arm_dataproc.md R282, R290): each condition of the flags of `a - b` is the
comparison it is named for; NV never holds. -/
def Obligations.ConditionsOfCompare : Prop :=
  ∀ (a b : Word) (p : Psr), let q := p.setNzcv (subWithCarry a b true)
    (condHolds .eq q = true ↔ a = b) ∧ (condHolds .ne q = true ↔ a ≠ b) ∧
    (condHolds .cs q = true ↔ b.toNat ≤ a.toNat) ∧ (condHolds .cc q = true ↔ a.toNat < b.toNat) ∧
    (condHolds .hi q = true ↔ b.toNat < a.toNat) ∧ (condHolds .ls q = true ↔ a.toNat ≤ b.toNat) ∧
    (condHolds .ge q = true ↔ b.toInt ≤ a.toInt) ∧ (condHolds .lt q = true ↔ a.toInt < b.toInt) ∧
    (condHolds .gt q = true ↔ b.toInt < a.toInt) ∧ (condHolds .le q = true ↔ a.toInt ≤ b.toInt) ∧
    (condHolds .mi q = true ↔ (a - b).toInt < 0) ∧ (condHolds .pl q = true ↔ 0 ≤ (a - b).toInt) ∧
    (condHolds .vs q = true ↔ a.toInt - b.toInt < -2147483648 ∨ 2147483647 < a.toInt - b.toInt) ∧
    (condHolds .vc q = true ↔ -2147483648 ≤ a.toInt - b.toInt ∧ a.toInt - b.toInt ≤ 2147483647) ∧
    condHolds .al q = true ∧ condHolds .nv q = false

/-! ## Data processing -/

/-- 40_arm_dataproc.md R280..R295 and 00_scope.md R15 in exact arithmetic: the result of each operation, C as the carry out
of or the absence of a borrow from the unsigned operation, V as the exact signed result lying outside 32 bits; for
the logical operations C is the shifter's carry-out and V is unchanged. -/
def Obligations.AluArithmetic : Prop :=
  ∀ (a b : Word) (c v sc : Bool),
    (∀ (op : DpOp) (x y : Word) (k : Nat),
      (op = .add ∧ x = a ∧ y = b ∧ k = 0) ∨ (op = .cmn ∧ x = a ∧ y = b ∧ k = 0) ∨
        (op = .adc ∧ x = a ∧ y = b ∧ k = c.toNat) →
      (dpCompute op a b c v sc).result.toNat = (x.toNat + y.toNat + k) % 2 ^ 32 ∧
      (dpCompute op a b c v sc).carry = decide (2 ^ 32 ≤ x.toNat + y.toNat + k) ∧
      (dpCompute op a b c v sc).overflow =
        decide (x.toInt + y.toInt + k < -2147483648 ∨ 2147483647 < x.toInt + y.toInt + k)) ∧
    (∀ (op : DpOp) (x y : Word) (k : Nat),
      (op = .sub ∧ x = a ∧ y = b ∧ k = 0) ∨ (op = .cmp ∧ x = a ∧ y = b ∧ k = 0) ∨
        (op = .rsb ∧ x = b ∧ y = a ∧ k = 0) ∨ (op = .sbc ∧ x = a ∧ y = b ∧ k = 1 - c.toNat) ∨
        (op = .rsc ∧ x = b ∧ y = a ∧ k = 1 - c.toNat) →
      ((dpCompute op a b c v sc).result.toNat : Int) = ((x.toNat : Int) - y.toNat - k) % 2 ^ 32 ∧
      (dpCompute op a b c v sc).carry = decide (y.toNat + k ≤ x.toNat) ∧
      (dpCompute op a b c v sc).overflow =
        decide (x.toInt - y.toInt - k < -2147483648 ∨ 2147483647 < x.toInt - y.toInt - k)) ∧
    (∀ (op : DpOp) (f : Bool → Bool → Bool),
      (op = .and ∧ f = fun p q => p && q) ∨ (op = .tst ∧ f = fun p q => p && q) ∨
        (op = .eor ∧ f = fun p q => xor p q) ∨ (op = .teq ∧ f = fun p q => xor p q) ∨
        (op = .orr ∧ f = fun p q => p || q) ∨ (op = .bic ∧ f = fun p q => p && !q) ∨
        (op = .mov ∧ f = fun _ q => q) ∨ (op = .mvn ∧ f = fun _ q => !q) →
      (∀ k : Nat, k < 32 → (dpCompute op a b c v sc).result.getLsbD k = f (a.getLsbD k) (b.getLsbD k)) ∧
      (dpCompute op a b c v sc).carry = sc ∧ (dpCompute op a b c v sc).overflow = v)

/-- 40_arm_dataproc.md R271, R272: the shifter in exact arithmetic.  By a register amount `n`, 1 to 255, LSL multiplies by
`2 ^ n` modulo `2 ^ 32`, LSR divides, ASR divides the signed value, ROR moves bit `i + n` modulo 32 to bit `i`; the
carry-out is the last bit moved out; an amount of 0 changes neither value nor carry.  An immediate amount 1 to 31
does the same, 0 encodes LSL #0, LSR #32, ASR #32 and RRX. -/
def Obligations.ShifterArithmetic : Prop :=
  (∀ (t : ShiftKind) (m : Word) (c : Bool), shiftRegister t 0#8 m c = (m, c)) ∧
  (∀ (n : Byte) (m : Word) (c : Bool), n ≠ 0#8 →
    (shiftRegister .lsl n m c).1.toNat = m.toNat * 2 ^ n.toNat % 2 ^ 32 ∧
    (shiftRegister .lsl n m c).2 = decide (m.toNat * 2 ^ n.toNat / 2 ^ 32 % 2 = 1) ∧
    (shiftRegister .lsr n m c).1.toNat = m.toNat / 2 ^ n.toNat ∧
    (shiftRegister .lsr n m c).2 = decide (m.toNat / 2 ^ (n.toNat - 1) % 2 = 1) ∧
    (shiftRegister .asr n m c).1.toInt = m.toInt / 2 ^ n.toNat ∧
    (shiftRegister .asr n m c).2 = decide (m.toInt / 2 ^ (n.toNat - 1) % 2 = 1) ∧
    (∀ i : Nat, i < 32 → (shiftRegister .ror n m c).1.getLsbD i = m.getLsbD ((i + n.toNat) % 32)) ∧
    (shiftRegister .ror n m c).2 = m.getLsbD ((n.toNat - 1) % 32)) ∧
  (∀ (t : ShiftKind) (n : BitVec 5) (m : Word) (c : Bool), n ≠ 0#5 →
    shiftImmediate t n m c = shiftRegister t (n.zeroExtend 8) m c) ∧
  (∀ (m : Word) (c : Bool),
    shiftImmediate .lsl 0#5 m c = (m, c) ∧
    shiftImmediate .lsr 0#5 m c = shiftRegister .lsr 32#8 m c ∧
    shiftImmediate .asr 0#5 m c = shiftRegister .asr 32#8 m c ∧
    (shiftImmediate .ror 0#5 m c).1.toNat = m.toNat / 2 + (if c then 2 ^ 31 else 0) ∧
    (shiftImmediate .ror 0#5 m c).2 = decide (m.toNat % 2 = 1))

/-- 40_arm_dataproc.md R271, R274, R276: the sixteen operations in the immediate-shift form, when R15 is not written: the
result in `Rd`, the flags when `S = 1` (always for the four tests), the program counter past the instruction, and
nothing else changed. -/
def Obligations.DpImmediateShift : Prop :=
  ∀ (op : DpOp) (c : Cond) (s : Bool) (rn rd : RegNum) (n : BitVec 5) (t : ShiftKind) (rm : RegNum) (st : State),
    condHolds c st.cpu.cpsr = true → (dpWritesRd op = true → rd ≠ 15#4) →
    let o := shiftImmediate t n (st.reg rm) st.cpu.cpsr.c
    let r := dpCompute op (st.reg rn) o.1 st.cpu.cpsr.c st.cpu.cpsr.v o.2
    let p := if op.setsFlags s then st.cpu.cpsr.setNzcv r else st.cpu.cpsr
    exec (Instr.dpShi op c s rn rd n t rm) st =
      .next { st with cpu := if dpWritesRd op then st.cpu.wrote rd r.result p else st.cpu.flagged p }

/-- 40_arm_dataproc.md R272, R274, R276: the register-shift form: R15 reads as `A + 12`, and one internal cycle is charged. -/
def Obligations.DpRegisterShift : Prop :=
  ∀ (op : DpOp) (c : Cond) (s : Bool) (rn rd rs : RegNum) (t : ShiftKind) (rm : RegNum) (st : State),
    condHolds c st.cpu.cpsr = true → (dpWritesRd op = true → rd ≠ 15#4) → (st.strict = true → rs ≠ 15#4) →
    let o := shiftRegister t ((st.regStore rs).extractLsb' 0 8) (st.regStore rm) st.cpu.cpsr.c
    let r := dpCompute op (st.regStore rn) o.1 st.cpu.cpsr.c st.cpu.cpsr.v o.2
    let p := if op.setsFlags s then st.cpu.cpsr.setNzcv r else st.cpu.cpsr
    exec (Instr.dpShr op c s rn rd rs t rm) st =
      .next { cpu := if dpWritesRd op then st.cpu.wrote rd r.result p else st.cpu.flagged p, sys := st.sys.paid 1 }

/-- 40_arm_dataproc.md R273, R274, R276: the immediate form. -/
def Obligations.DpImmediateForm : Prop :=
  ∀ (op : DpOp) (c : Cond) (s : Bool) (rn rd : RegNum) (rotate : BitVec 4) (imm8 : BitVec 8) (st : State),
    condHolds c st.cpu.cpsr = true → (dpWritesRd op = true → rd ≠ 15#4) →
    let v := (imm8.zeroExtend 32).rotateRight (2 * rotate.toNat)
    let sc := if rotate = 0#4 then st.cpu.cpsr.c else v.getLsbD 31
    let r := dpCompute op (st.reg rn) v st.cpu.cpsr.c st.cpu.cpsr.v sc
    let p := if op.setsFlags s then st.cpu.cpsr.setNzcv r else st.cpu.cpsr
    exec (Instr.dpImm op c s rn rd rotate imm8) st =
      .next { st with cpu := if dpWritesRd op then st.cpu.wrote rd r.result p else st.cpu.flagged p }

/-- 40_arm_dataproc.md R274, R275: a data-processing instruction that writes R15 branches to its result; with `S = 1` the
CPSR is first restored from the SPSR of the mode, an invalid saved mode is a fault, and in User and System mode the
restore is UNPREDICTABLE and emulated as no change. -/
def Obligations.DpWritesPc : Prop :=
  ∀ (op : DpOp) (c : Cond) (s : Bool) (rn rm rs : RegNum) (n : BitVec 5) (t : ShiftKind) (rotate : BitVec 4)
    (imm8 : BitVec 8) (st : State) (i : Instr) (o : Word × Bool) (a : Word) (u : State),
    condHolds c st.cpu.cpsr = true → dpWritesRd op = true →
    (i = Instr.dpShi op c s rn 15#4 n t rm ∧ o = shiftImmediate t n (st.reg rm) st.cpu.cpsr.c ∧ a = st.reg rn ∧ u = st) ∨
    (i = Instr.dpImm op c s rn 15#4 rotate imm8 ∧ o = immediateOperand rotate imm8 st.cpu.cpsr.c ∧ a = st.reg rn ∧
      u = st) ∨
    (i = Instr.dpShr op c s rn 15#4 rs t rm ∧ st.strict = false ∧
      o = shiftRegister t ((st.regStore rs).extractLsb' 0 8) (st.regStore rm) st.cpu.cpsr.c ∧ a = st.regStore rn ∧
      u = { st with sys := st.sys.paid 1 }) →
    let r := (dpCompute op a o.1 st.cpu.cpsr.c st.cpu.cpsr.v o.2).result
    (s = false → exec i st = .next (u.branch r)) ∧
    (s = true → ∀ p, st.cpu.currentSpsr = some p → modeValid p.m = true →
      exec i st = .next ({ u with cpu := { st.cpu with cpsr := p } }.branch r)) ∧
    (s = true → ∀ p, st.cpu.currentSpsr = some p → modeValid p.m = false → exec i st = .fault (.invalidMode p.m)) ∧
    (s = true → st.cpu.currentSpsr = none → st.strict = false → exec i st = .next (u.branch r)) ∧
    (s = true → st.cpu.currentSpsr = none → st.strict = true → exec i st = .fault (.unpredictable .spsrInUserSystem))

/-! ## Multiplies -/

/-- 41_arm_multiply.md R311, R312, R314, R315: MUL and MLA: the low word of the product, with the accumulator added; N and Z
when `S = 1`, C and V unchanged; `m` internal cycles, one more for MLA. -/
def Obligations.MultiplyShort : Prop :=
  ∀ (c : Cond) (s : Bool) (rd rn rs rm : RegNum) (st : State), condHolds c st.cpu.cpsr = true → rd ≠ 15#4 →
    (st.strict = true → rs ≠ 15#4 ∧ rm ≠ 15#4 ∧ rd ≠ rm) →
    (let r := st.reg rm * st.reg rs
     exec (.mul c s rd rs rm) st =
      .next { cpu := st.cpu.wrote rd r (if s then st.cpu.cpsr.setNz r else st.cpu.cpsr),
              sys := st.sys.paid (multiplierCycles true (st.reg rs)) }) ∧
    ((st.strict = true → rn ≠ 15#4) →
      let r := st.reg rm * st.reg rs + st.reg rn
      exec (.mla c s rd rn rs rm) st =
        .next { cpu := st.cpu.wrote rd r (if s then st.cpu.cpsr.setNz r else st.cpu.cpsr),
                sys := st.sys.paid (multiplierCycles true (st.reg rs) + 1) })

/-- 41_arm_multiply.md R311, R312, R316..R319: the long multiplies: the exact product of the unsigned or signed operands,
plus the accumulator, modulo `2 ^ 64`; its low word in `RdLo` and its high word in `RdHi`; N and Z of the 64-bit
result when `S = 1`, C and V unchanged. -/
def Obligations.MultiplyLong : Prop :=
  ∀ (signed acc : Bool) (c : Cond) (s : Bool) (rdHi rdLo rs rm : RegNum) (st : State) (r : BitVec 64),
    condHolds c st.cpu.cpsr = true → rdHi ≠ 15#4 → rdLo ≠ 15#4 →
    (st.strict = true → rs ≠ 15#4 ∧ rm ≠ 15#4 ∧ rdHi ≠ rdLo ∧ rdHi ≠ rm ∧ rdLo ≠ rm) →
    (let p : Int := if signed then (st.reg rm).toInt * (st.reg rs).toInt else (st.reg rm).toNat * (st.reg rs).toNat
     let a : Int := if acc then 2 ^ 32 * (st.reg rdHi).toNat + (st.reg rdLo).toNat else 0
     r = BitVec.ofInt 64 (p + a)) →
    let q := if s then { st.cpu.cpsr with n := r.getLsbD 63, z := r == 0#64 } else st.cpu.cpsr
    let regs := (st.cpu.regs.set (physIndex st.cpu.bank rdLo) (r.extractLsb' 0 32)).set (physIndex st.cpu.bank rdHi)
      (r.extractLsb' 32 32)
    exec (Instr.mulLong signed acc c s rdHi rdLo rs rm) st =
      .next { cpu := { st.cpu with regs := regs, cpsr := q, pc := st.cpu.pc + widthOf st.cpu.cpsr.t },
              sys := st.sys.paid (multiplierCycles signed (st.reg rs) + if acc then 2 else 1) }

/-- 41_arm_multiply.md R313: the internal cycles of the multiplier by the range of `Rs`: bytes that only repeat the sign (for
the unsigned long forms, that are zero) are not worked through. -/
def Obligations.MultiplierCycles : Prop :=
  ∀ x : Word,
    multiplierCycles true x =
      (if -256 ≤ x.toInt ∧ x.toInt < 256 then 1 else if -65536 ≤ x.toInt ∧ x.toInt < 65536 then 2
       else if -16777216 ≤ x.toInt ∧ x.toInt < 16777216 then 3 else 4) ∧
    multiplierCycles false x =
      (if x.toNat < 256 then 1 else if x.toNat < 65536 then 2 else if x.toNat < 16777216 then 3 else 4)

/-! ## Status registers and branches -/

/-- 42_arm_psr_branch.md R332, 10_state.md R60, R62: MRS writes the CPSR, or the SPSR of the mode, to `Rd`: N, Z, C, V in bits
31 to 28, I, F, T in bits 7 to 5, the mode in bits 4 to 0, and 0 in bits 27 to 8. -/
def Obligations.MrsReads : Prop :=
  (∀ p : Psr, p.toWord.getLsbD 31 = p.n ∧ p.toWord.getLsbD 30 = p.z ∧ p.toWord.getLsbD 29 = p.c ∧
    p.toWord.getLsbD 28 = p.v ∧ p.toWord.extractLsb' 8 20 = 0#20 ∧ p.toWord.getLsbD 7 = p.i ∧
    p.toWord.getLsbD 6 = p.f ∧ p.toWord.getLsbD 5 = p.t ∧ p.toWord.extractLsb' 0 5 = p.m) ∧
  (∀ (c : Cond) (rd : RegNum) (st : State), condHolds c st.cpu.cpsr = true → rd ≠ 15#4 →
    exec (.mrs c false rd) st = .next { st with cpu := st.cpu.wrote rd st.cpu.cpsr.toWord st.cpu.cpsr } ∧
    (∀ p, st.cpu.currentSpsr = some p →
      exec (.mrs c true rd) st = .next { st with cpu := st.cpu.wrote rd p.toWord st.cpu.cpsr }) ∧
    (st.cpu.currentSpsr = none → st.strict = false →
      exec (.mrs c true rd) st = .next { st with cpu := st.cpu.wrote rd st.cpu.cpsr.toWord st.cpu.cpsr }) ∧
    (st.cpu.currentSpsr = none → st.strict = true →
      exec (.mrs c true rd) st = .fault (.unpredictable .spsrInUserSystem)))

/-- 42_arm_psr_branch.md R331, R333, R334: MSR.  The flags field is written when bit 3 of the mask is set; the control field
when bit 0 is set and the mode is not User, with T kept; an invalid mode is a fault; the SPSR of the mode takes any
value, and in User and System mode nothing is written. -/
def Obligations.MsrWrites : Prop :=
  ∀ (c : Cond) (r : Bool) (mask rotate : BitVec 4) (imm8 : BitVec 8) (rm : RegNum) (st : State) (i : Instr) (v : Word),
    condHolds c st.cpu.cpsr = true →
    (i = .msrReg c r mask rm ∧ v = st.reg rm ∧ (st.strict = true → rm ≠ 15#4)) ∨
    (i = .msrImm c r mask rotate imm8 ∧ v = (imm8.zeroExtend 32).rotateRight (2 * rotate.toNat)) →
    let flagged (p : Psr) : Psr := if mask.getLsbD 3 then
      { p with n := v.getLsbD 31, z := v.getLsbD 30, c := v.getLsbD 29, v := v.getLsbD 28 } else p
    let control (p : Psr) : Psr := { p with i := v.getLsbD 7, f := v.getLsbD 6, t := v.getLsbD 5, m := v.extractLsb' 0 5 }
    (r = false → (mask.getLsbD 0 = false ∨ st.cpu.cpsr.m = 0b10000#5) →
      exec i st = .next { st with cpu := st.cpu.flagged (flagged st.cpu.cpsr) }) ∧
    (r = false → mask.getLsbD 0 = true → st.cpu.cpsr.m ≠ 0b10000#5 → modeValid (v.extractLsb' 0 5) = true →
      (st.strict = true → v.getLsbD 5 = st.cpu.cpsr.t) →
      exec i st = .next { st with cpu := st.cpu.flagged { control (flagged st.cpu.cpsr) with t := st.cpu.cpsr.t } }) ∧
    (r = false → mask.getLsbD 0 = true → st.cpu.cpsr.m ≠ 0b10000#5 → modeValid (v.extractLsb' 0 5) = false →
      exec i st = .fault (.invalidMode (v.extractLsb' 0 5))) ∧
    (r = false → mask.getLsbD 0 = true → st.cpu.cpsr.m ≠ 0b10000#5 → modeValid (v.extractLsb' 0 5) = true →
      st.strict = true → v.getLsbD 5 ≠ st.cpu.cpsr.t → exec i st = .fault (.unpredictable .msrWritesT)) ∧
    (r = true → ∀ k, st.cpu.bank.spsrIndex = some k →
      let p := flagged st.cpu.spsr[k]
      exec i st = .next { st with cpu := { st.cpu with
        spsr := st.cpu.spsr.set k (if mask.getLsbD 0 then control p else p),
        pc := st.cpu.pc + widthOf st.cpu.cpsr.t } }) ∧
    (r = true → st.cpu.bank.spsrIndex = none → st.strict = false →
      exec i st = .next { st with cpu := { st.cpu with pc := st.cpu.pc + widthOf st.cpu.cpsr.t } }) ∧
    (r = true → st.cpu.bank.spsrIndex = none → st.strict = true →
      exec i st = .fault (.unpredictable .spsrInUserSystem))

/-- 42_arm_psr_branch.md R335..R337: B, BL and BX in ARM state: the target, R14 for BL, and T from bit 0 for BX. -/
def Obligations.ArmBranches : Prop :=
  ∀ (c : Cond) (o : BitVec 24) (rm : RegNum) (st : State), condHolds c st.cpu.cpsr = true → st.cpu.cpsr.t = false →
    exec (.b c o) st = .next (st.branch (st.cpu.pc + 8#32 + (o ++ 0#2).signExtend 32)) ∧
    exec (.bl c o) st = .next ({ st with cpu := { st.cpu with
      regs := st.cpu.regs.set (physIndex st.cpu.bank 14#4) (st.cpu.pc + 4#32) } }.branch
        (st.cpu.pc + 8#32 + (o ++ 0#2).signExtend 32)) ∧
    exec (.bx c rm) st = .next ({ st with cpu := { st.cpu with
      cpsr := { st.cpu.cpsr with t := (st.reg rm).getLsbD 0 } } }.branch (st.reg rm))

/-- 10_state.md R56, 20_memory.md R120, R124: a branch aligns its target for the state of T and refills the pipeline with the
two instructions there, an N and an S fetch, which set the open-bus latch; it changes no other part of the machine.
Stated where both fetches read a byte array. -/
def Obligations.BranchRefills : Prop :=
  ∀ (target : Word) (st : State),
    let t := st.cpu.cpsr.t
    let pc := if t then target &&& ~~~1#32 else target &&& ~~~3#32
    let w : Width := if t then .half else .word
    let next := pc + (if t then 2#32 else 4#32)
    let word (a : Word) : Word := st.sys.peekAligned w a
    st.sys.plainFetch pc = true → st.sys.plainFetch next = true →
    st.branch target =
      { cpu := { st.cpu with pc := pc, pipe0 := word pc, pipe1 := word next },
        sys := { st.sys with
          lastFetchAddr := next,
          lastFetch := if t then (word next).extractLsb' 0 16 ++ (word next).extractLsb' 0 16 else word next,
          cost := st.sys.cost + accessCost st.sys.waitcnt .nonseq w pc + accessCost st.sys.waitcnt .seq w next } }

/-! ## Loads and stores -/

/-- 43_arm_loadstore.md R350..R353, R355, R356, R358, R361, R363, R365, R366: every single, halfword and signed load: the
address, the value read and rotated or extended, the base written back before `Rd`, one N access and one internal
cycle; a load of R15 is a branch. -/
def Obligations.ArmLoads : Prop :=
  ∀ (sk : SingleWidth) (hk : HalfLoad) (x : SingleForm) (c : Cond) (p u w : Bool) (rn rd rm : RegNum) (o : BitVec 12)
    (n : BitVec 5) (t : ShiftKind) (immH immL : BitVec 4) (st : State) (i : Instr) (k : LoadKind) (ix : Indexing)
    (off : Word),
    condHolds c st.cpu.cpsr = true →
    (i = Instr.loadImm sk x c u rn rd o ∧ k = sk.load ∧ ix = x.indexing u ∧ off = o.zeroExtend 32) ∨
    (i = Instr.loadReg sk x c u rn rd n t rm ∧ k = sk.load ∧ ix = x.indexing u ∧
      off = (shiftImmediate t n (st.reg rm) st.cpu.cpsr.c).1 ∧ (st.strict = true → rm ≠ 15#4)) ∨
    (i = Instr.loadHalfImm hk c p u w rn rd immH immL ∧ k = hk.load ∧
      ix = { pre := p, up := u, writeBack := !p || w } ∧ off = (immH ++ immL).zeroExtend 32 ∧
      (st.strict = true → p = true ∨ w = false)) ∨
    (i = Instr.loadHalfReg hk c p u w rn rd rm ∧ k = hk.load ∧ ix = { pre := p, up := u, writeBack := !p || w } ∧
      off = st.reg rm ∧ (st.strict = true → rm ≠ 15#4 ∧ (p = true ∨ w = false))) →
    (st.strict = true → (ix.writeBack = true → rn ≠ 15#4 ∧ rd ≠ rn) ∧ (k ≠ .word → rd ≠ 15#4)) →
    let moved := if ix.up then st.reg rn + off else st.reg rn - off
    let a := if ix.pre then moved else st.reg rn
    let r := st.sys.load .nonseq (k.width a) a
    let cpu := st.cpu.based (ix.writeBack && rn != 15#4) rn moved
    exec i st = .next (if rd = 15#4 then State.branch (k.extract a r.1) { cpu := cpu, sys := r.2.paid 1 }
      else { cpu := cpu.wrote rd (k.extract a r.1) st.cpu.cpsr, sys := r.2.paid 1 })

/-- 20_memory.md R101, R103, R109 with 43_arm_loadstore.md R354, R356, R358, R363, R365, R366: what a load yields from EWRAM or
IWRAM, byte by byte: a word load takes the aligned word rotated so that the addressed byte is lowest, a halfword load
the aligned halfword, rotated by 8 from an odd address, a signed load extends its sign; the read changes nothing. -/
def Obligations.RamLoadValues : Prop :=
  ∀ (y : Sys) (a : Word) (base size : Nat),
    (Region.of a = .ewram ∧ base = 0x02000000 ∧ size = 0x40000) ∨
      (Region.of a = .iwram ∧ base = 0x03000000 ∧ size = 0x8000) →
    let byte (n : Nat) : Byte := Memory.read y.mem (base + n % size)
    let w := a.toNat / 4 * 4
    let h := a.toNat / 2 * 2
    (y.memRead .word a).1 = byte (w + 3) ++ byte (w + 2) ++ byte (w + 1) ++ byte w ∧
    (∀ k, k < 4 → (LoadKind.word.extract a (y.memRead .word a).1).extractLsb' (8 * k) 8 =
      byte (w + (a.toNat + k) % 4)) ∧
    LoadKind.byte.extract a (y.memRead .byte a).1 = (byte a.toNat).zeroExtend 32 ∧
    LoadKind.half.extract a (y.memRead .half a).1 =
      (if a.toNat % 2 = 0 then (byte (h + 1) ++ byte h).zeroExtend 32 else byte h ++ 0#16 ++ byte (h + 1)) ∧
    LoadKind.signedByte.extract a (y.memRead .byte a).1 = (byte a.toNat).signExtend 32 ∧
    LoadKind.signedHalf.extract a (y.memRead (LoadKind.signedHalf.width a) a).1 =
      (if a.toNat % 2 = 0 then (byte (h + 1) ++ byte h).signExtend 32 else (byte a.toNat).signExtend 32) ∧
    (∀ v : Width, (y.memRead v a).2 = y)

/-- 43_arm_loadstore.md R350..R353, R357, R359, R361, R364: every single and halfword store: the address, the value stored,
R15 storing `A + 12`, and the base written back after the store.  The bus stops only a store that asks for STOP or
arms DMA3 with video capture. -/
def Obligations.ArmStores : Prop :=
  ∀ (sk : SingleWidth) (x : SingleForm) (c : Cond) (p u w : Bool) (rn rd rm : RegNum) (o : BitVec 12)
    (n : BitVec 5) (t : ShiftKind) (immH immL : BitVec 4) (st : State) (i : Instr) (k : Width) (ix : Indexing)
    (off : Word),
    condHolds c st.cpu.cpsr = true →
    (i = Instr.storeImm sk x c u rn rd o ∧ k = sk.width ∧ ix = x.indexing u ∧ off = o.zeroExtend 32) ∨
    (i = Instr.storeReg sk x c u rn rd n t rm ∧ k = sk.width ∧ ix = x.indexing u ∧
      off = (shiftImmediate t n (st.reg rm) st.cpu.cpsr.c).1 ∧ (st.strict = true → rm ≠ 15#4)) ∨
    (i = .strhImm c p u w rn rd immH immL ∧ k = .half ∧ ix = { pre := p, up := u, writeBack := !p || w } ∧
      off = (immH ++ immL).zeroExtend 32 ∧ (st.strict = true → p = true ∨ w = false)) ∨
    (i = .strhReg c p u w rn rd rm ∧ k = .half ∧ ix = { pre := p, up := u, writeBack := !p || w } ∧
      off = st.reg rm ∧ (st.strict = true → rm ≠ 15#4 ∧ (p = true ∨ w = false))) →
    (st.strict = true → (ix.writeBack = true → rn ≠ 15#4) ∧ (k ≠ .word → rd ≠ 15#4)) →
    let moved := if ix.up then st.reg rn + off else st.reg rn - off
    let a := if ix.pre then moved else st.reg rn
    let v := if rd = 15#4 then st.pcStore else st.reg rd
    st.sys.storeStops k a v = false →
    ∃ y, st.sys.store .nonseq k a v = .ok y ∧
      exec i st = .next { cpu := { st.cpu.based (ix.writeBack && rn != 15#4) rn moved with
        pc := st.cpu.pc + widthOf st.cpu.cpsr.t }, sys := y }

/-- 20_memory.md R107, R109, R111..R113, R118: a store to EWRAM or IWRAM completes, a later load of the same width from any
address that mirrors it reads the stored bytes, and every byte outside those the store reaches keeps its value; in
every region but I/O a store completes and leaves every byte it does not reach. -/
def Obligations.StoreThenLoad : Prop :=
  (∀ (y : Sys) (w : Width) (a v : Word), Region.of a = .ewram ∨ Region.of a = .iwram →
    ∃ z, y.memWrite w a v = .ok z ∧
      (∀ b : Word, Region.of b = Region.of a →
        b.toNat % (if Region.of a = .ewram then 0x40000 else 0x8000) =
          a.toNat % (if Region.of a = .ewram then 0x40000 else 0x8000) →
        (z.memRead w b).1 = (match w with
          | .byte => v &&& 0xFF#32
          | .half => v &&& 0xFFFF#32
          | .word => v)) ∧
      (∀ k, y.storeTouches w a k = false → Memory.read z.mem k = Memory.read y.mem k) ∧
      z = { y with mem := z.mem }) ∧
  (∀ (y : Sys) (w : Width) (a v : Word), Region.of (w.align a) ≠ .io →
    ∃ z, y.memWrite w a v = .ok z ∧
      ∀ k, y.storeTouches w a k = false → Memory.read z.mem k = Memory.read y.mem k)

/-- 43_arm_loadstore.md R372, R373: SWP and SWPB: the word, rotated, or the byte at the address in `Rn` goes to `Rd`, and `Rm`
is stored there; two N accesses and one internal cycle. -/
def Obligations.Swaps : Prop :=
  ∀ (c : Cond) (rn rd rm : RegNum) (st : State) (i : Instr) (k : LoadKind) (w : Width),
    condHolds c st.cpu.cpsr = true → rd ≠ 15#4 →
    (st.strict = true → rn ≠ 15#4 ∧ rm ≠ 15#4 ∧ rn ≠ rm ∧ rn ≠ rd) →
    (i = .swp c rn rd rm ∧ k = .word ∧ w = .word) ∨ (i = .swpb c rn rd rm ∧ k = .byte ∧ w = .byte) →
    let a := st.reg rn
    let r := st.sys.load .nonseq w a
    r.2.storeStops w a (st.reg rm) = false →
    ∃ y, r.2.store .nonseq w a (st.reg rm) = .ok y ∧
      exec i st = .next { cpu := st.cpu.wrote rd (k.extract a r.1) st.cpu.cpsr, sys := y.paid 1 }

/-- 43_arm_loadstore.md R367..R371, 46_thumb_mem.md R500, R502, R504: the store-multiples: they complete where no word of the
block lies in the I/O region, move the base when it is written back, and, when the block lies in IWRAM, leave each
listed register's word at its place: the original base when the base is the lowest register of the list, the moved
base otherwise, and `A + 12` (`A + 6` in THUMB state) for R15. -/
def Obligations.StoreMultiples : Prop :=
  ∀ (c : Cond) (p u wb r : Bool) (rn : RegNum) (rb : LowReg) (list : BitVec 16) (l8 : BitVec 8) (st : State)
    (i : Instr) (b : Bank) (start moved : Word),
    condHolds c st.cpu.cpsr = true →
    (i = .stm c p u wb rn list ∧ b = st.cpu.bank ∧ (st.strict = true → rn ≠ 15#4)) ∨
    (i = .stmS c p u wb rn list ∧ b = .usr ∧
      (st.strict = true → rn ≠ 15#4 ∧ wb = false ∧ st.cpu.bank ≠ .usr)) ∨
    (i = .tPush r l8 ∧ b = st.cpu.bank ∧ p = true ∧ u = false ∧ wb = true ∧ rn = 13#4 ∧
      list = 0#1 ++ BitVec.ofBool r ++ 0#6 ++ l8) ∨
    (i = .tStmia rb l8 ∧ b = st.cpu.bank ∧ p = false ∧ u = true ∧ wb = true ∧ rn = 0#1 ++ rb ∧ list = 0#8 ++ l8) →
    (let full : BitVec 16 := if list = 0#16 then 0x8000#16 else list
     let n := ((List.range 16).filter (fun k => full.getLsbD k)).length
     let size : Word := if list = 0#16 then 0x40#32 else BitVec.ofNat 32 (4 * n)
     let base := st.reg rn
     start = (if u then (if p then base + 4#32 else base) else (if p then base - size else base - size + 4#32)) →
     moved = (if u then base + size else base - size) →
     blockOutsideIo start n = true →
     ∃ t, exec i st = .next t ∧
       t.cpu = { st.cpu.based (wb && rn != 15#4) rn moved with pc := st.cpu.pc + widthOf st.cpu.cpsr.t } ∧
       (0x03000000 ≤ start.toNat → start.toNat + 4 * n ≤ 0x04000000 →
         ∀ j : RegNum, full.getLsbD j.toNat = true →
           (t.sys.memRead .word (blockAddress start full j)).1 =
             (if j = 15#4 then st.pcStore
              else if wb = true ∧ rn ≠ 15#4 ∧ physIndex b j = physIndex st.cpu.bank rn ∧ rankIn full j ≠ 0 then moved
              else st.cpu.bankReg b j)))

/-- 43_arm_loadstore.md R367..R370, 46_thumb_mem.md R501, R503, R504, 60_exceptions.md R557: every load-multiple completes;
outside the EEPROM window it has the listed registers of the view loaded from ascending words, the base moved unless it
is loaded, nS + 1N + 1I charged; R15, when it is listed or the list is empty, is a branch to the word loaded for it,
after the CPSR is restored from the SPSR when `S = 1`, where an invalid saved mode is a fault.  That an empty list
with `S = 1` restores the CPSR (`full` is then `0x8000`) is the model's deduction (log entry 28). -/
def Obligations.LoadMultiples : Prop :=
  ∀ (c : Cond) (p u wb r : Bool) (rn : RegNum) (rb : LowReg) (list : BitVec 16) (l8 : BitVec 8) (st : State)
    (i : Instr) (b : Bank) (q : Psr),
    condHolds c st.cpu.cpsr = true →
    (let full : BitVec 16 := if list = 0#16 then 0x8000#16 else list
     (i = .ldm c p u wb rn list ∧ b = st.cpu.bank ∧ q = st.cpu.cpsr ∧ (st.strict = true → rn ≠ 15#4)) ∨
     (i = .ldmS c p u wb rn list ∧ full.getLsbD 15 = false ∧ b = .usr ∧ q = st.cpu.cpsr ∧
       (st.strict = true → rn ≠ 15#4 ∧ wb = false ∧ st.cpu.bank ≠ .usr)) ∨
     (i = .ldmS c p u wb rn list ∧ full.getLsbD 15 = true ∧ b = st.cpu.bank ∧ st.cpu.currentSpsr = some q ∧
       modeValid q.m = true ∧ (st.strict = true → rn ≠ 15#4)) ∨
     (i = .ldmS c p u wb rn list ∧ full.getLsbD 15 = true ∧ b = st.cpu.bank ∧ st.cpu.currentSpsr = none ∧
       q = st.cpu.cpsr ∧ st.strict = false) ∨
     (i = .tPop r l8 ∧ b = st.cpu.bank ∧ q = st.cpu.cpsr ∧ p = false ∧ u = true ∧ wb = true ∧ rn = 13#4 ∧
       list = BitVec.ofBool r ++ 0#7 ++ l8) ∨
     (i = .tLdmia rb l8 ∧ b = st.cpu.bank ∧ q = st.cpu.cpsr ∧ p = false ∧ u = true ∧ wb = true ∧ rn = 0#1 ++ rb ∧
       list = 0#8 ++ l8) →
     let n := ((List.range 16).filter (fun k => full.getLsbD k)).length
     let size : Word := if list = 0#16 then 0x40#32 else BitVec.ofNat 32 (4 * n)
     let base := st.reg rn
     let start := if u then (if p then base + 4#32 else base) else (if p then base - size else base - size + 4#32)
     let moved := if u then base + size else base - size
     (∃ t, exec i st = .next t) ∧
     (st.sys.blockPlain start n = true →
     ∃ t, LoadedFrom b start moved full n wb rn st t ∧
       exec i st = .next
         (if full.getLsbD 15 = true then
           State.branch (st.sys.blockWord start full 15#4) { t with cpu := { t.cpu with cpsr := q } }
          else { t with cpu := { t.cpu with pc := t.cpu.pc + widthOf t.cpu.cpsr.t } }))) ∧
    (list.getLsbD 15 = true ∨ list = 0#16 → st.cpu.currentSpsr = some q → modeValid q.m = false →
      (st.strict = true → rn ≠ 15#4) → exec (.ldmS c p u wb rn list) st = .fault (.invalidMode q.m))

/-- 00_scope.md R12, 93_implementation_defined.md §1.1: with the policy `fault`, an instruction whose condition passes and
for which an UNPREDICTABLE case of the table `Instr.unpredictableCases` holds stops with the fault of one of those
cases, and no instruction stops with such a fault otherwise.  Which of several cases is named is the model's choice
(log entry 16). -/
def Obligations.UnpredictableFaults : Prop :=
  ∀ (i : Instr) (s : State), condHolds (instrCond i) s.cpu.cpsr = true →
    (s.strict = true → i.unpredictableCases s ≠ [] →
      ∃ k ∈ i.unpredictableCases s, exec i s = .fault (.unpredictable k)) ∧
    (∀ k, exec i s = .fault (.unpredictable k) → s.strict = true ∧ k ∈ i.unpredictableCases s)

/-- 41_arm_multiply.md R312, 42_arm_psr_branch.md R332, 43_arm_loadstore.md R372 under the policy `emulate`: where R15 is the
destination of a multiply, of MRS (in User and System mode the SPSR form reads the CPSR) or of a swap, the result is a
branch, after the other effects.  That a long multiply with both destinations R15 makes one branch, to the high word, is
the model's choice (log entry 33). -/
def Obligations.EmulatedWritesPc : Prop :=
  ∀ (signed acc : Bool) (c : Cond) (s : Bool) (rdHi rdLo rn rs rm : RegNum) (st : State),
    condHolds c st.cpu.cpsr = true → st.strict = false →
    (let short (r : Word) (m : Nat) : State := State.branch r
       { cpu := { st.cpu with cpsr := if s then st.cpu.cpsr.setNz r else st.cpu.cpsr },
         sys := st.sys.paid (multiplierCycles true (st.reg rs) + m) }
     exec (.mul c s 15#4 rs rm) st = .next (short (st.reg rm * st.reg rs) 0) ∧
     exec (.mla c s 15#4 rn rs rm) st = .next (short (st.reg rm * st.reg rs + st.reg rn) 1)) ∧
    (rdHi = 15#4 ∨ rdLo = 15#4 → ∀ r : BitVec 64,
      (let p : Int := if signed then (st.reg rm).toInt * (st.reg rs).toInt else (st.reg rm).toNat * (st.reg rs).toNat
       let a : Int := if acc then 2 ^ 32 * (st.reg rdHi).toNat + (st.reg rdLo).toNat else 0
       r = BitVec.ofInt 64 (p + a)) →
      let q := if s then { st.cpu.cpsr with n := r.getLsbD 63, z := r == 0#64 } else st.cpu.cpsr
      let lo := r.extractLsb' 0 32
      let hi := r.extractLsb' 32 32
      let one (rd : RegNum) (v : Word) : Cpu := (st.cpu.based (rd != 15#4) rd v)
      exec (Instr.mulLong signed acc c s rdHi rdLo rs rm) st = .next (State.branch (if rdHi = 15#4 then hi else lo)
        { cpu := { (if rdHi = 15#4 then one rdLo lo else one rdHi hi) with cpsr := q },
          sys := st.sys.paid (multiplierCycles signed (st.reg rs) + if acc then 2 else 1) })) ∧
    exec (.mrs c false 15#4) st = .next (st.branch st.cpu.cpsr.toWord) ∧
    (∀ p, st.cpu.currentSpsr = some p → exec (.mrs c true 15#4) st = .next (st.branch p.toWord)) ∧
    (st.cpu.currentSpsr = none → exec (.mrs c true 15#4) st = .next (st.branch st.cpu.cpsr.toWord)) ∧
    (∀ (i : Instr) (k : LoadKind) (w : Width),
      (i = .swp c rn 15#4 rm ∧ k = .word ∧ w = .word) ∨ (i = .swpb c rn 15#4 rm ∧ k = .byte ∧ w = .byte) →
      let a := st.reg rn
      let r := st.sys.load .nonseq w a
      r.2.storeStops w a (st.reg rm) = false →
      ∃ y, r.2.store .nonseq w a (st.reg rm) = .ok y ∧
        exec i st = .next (State.branch (k.extract a r.1) { cpu := st.cpu, sys := y.paid 1 }))

/-! ## Exceptions -/

/-- 44_arm_system.md R400..R405, 47_thumb_branch.md R531, 60_exceptions.md R559, R560: SWI takes the software interrupt;
every coprocessor instruction and every undefined encoding takes the Undefined Instruction exception, with one
internal cycle; the return address is that of the next instruction. -/
def Obligations.TrapInstructions : Prop :=
  ∀ (i : Instr) (st : State), condHolds (instrCond i) st.cpu.cpsr = true →
    (i.raisesSwi = true → exec i st = .next (st.enterException .swi (st.cpu.pc + widthOf st.cpu.cpsr.t))) ∧
    (i.raisesUndefined = true → exec i st = .next
      ({ st with sys := st.sys.paid 1 }.enterException .undefinedInstruction (st.cpu.pc + widthOf st.cpu.cpsr.t)))

/-- 60_exceptions.md R550, R551, R586: exception entry: the mode and the vector of the exception, T = 0, I = 1, F = 1 for
Reset and FIQ only, R14 and the SPSR of that mode for every exception but Reset, the flags and every other register
unchanged, and no byte of memory written; R556: the power-on reset through the BIOS writes neither R14 nor an SPSR, and
leaves Supervisor mode, ARM state, I = F = 1 and the program counter at 0. -/
def Obligations.ExceptionEntry : Prop :=
  (∀ (e : Exception) (ret : Word) (s : State),
    let t := s.enterException e ret
    let b := e.mode.bank
    t.cpu.cpsr = { s.cpu.cpsr with
      m := e.mode.bits, t := false, i := true, f := s.cpu.cpsr.f || (e == .reset || e == .fiq) } ∧
    (e ≠ .reset → t.cpu.bankReg b 14#4 = ret ∧ ∃ j, b.spsrIndex = some j ∧ t.cpu.spsr = s.cpu.spsr.set j s.cpu.cpsr) ∧
    (∀ k : Fin 30, k ≠ physIndex b 14#4 → t.cpu.regs[k] = s.cpu.regs[k]) ∧
    t.cpu.pc = e.vector ∧ t.sys.mem = s.sys.mem) ∧
  (∀ (p : Params) (m : List Host.Cell), p.skipBios = false →
    let t := State.powerOn p m
    t.cpu.cpsr.toWord = 0x000000D3#32 ∧ t.cpu.pc = 0#32 ∧ t.cpu.regs = Vector.replicate 30 0#32 ∧
    t.cpu.spsr = Vector.replicate 5 Psr.zero ∧ t.sys.mem = m) ∧
  Exception.reset.vector = 0x00#32 ∧ Exception.undefinedInstruction.vector = 0x04#32 ∧ Exception.swi.vector = 0x08#32 ∧
  Exception.prefetchAbort.vector = 0x0C#32 ∧ Exception.dataAbort.vector = 0x10#32 ∧ Exception.irq.vector = 0x18#32 ∧
  Exception.fiq.vector = 0x1C#32 ∧
  Exception.reset.mode = .supervisor ∧ Exception.undefinedInstruction.mode = .undefined ∧
  Exception.swi.mode = .supervisor ∧ Exception.prefetchAbort.mode = .abort ∧ Exception.dataAbort.mode = .abort ∧
  Exception.irq.mode = .irq ∧ Exception.fiq.mode = .fiq

/-- 60_exceptions.md R561, R569, R576, R577, 10_state.md R70, R71: after the due events a halt ends exactly when an enabled
source has requested an interrupt, whatever IME and I say, and a CPU that is not halted then enters the interrupt,
with R14 at `N + 4`, exactly when IME is set, an enabled source has requested it and I is clear; a CPU that stays halted
is unchanged.  So it is after an instruction, the one that writes HALTCNT among them, after an idle step, and when a
dispatch handed over from the step before ends (log entry 5). -/
def Obligations.HaltAndInterrupt : Prop :=
  let pending (y : Sys) : Bool := (y.ie &&& y.iflag &&& 0x3FFF#16) != 0#16
  let checked (c : Cpu) (y : Sys) : State :=
    if pending y && y.ime && !c.cpsr.i then (State.enterException .irq (c.pc + 4#32) { cpu := c, sys := y }).commit
    else { cpu := c, sys := y }
  let after (c : Cpu) (y : Sys) : State :=
    if y.halted && !pending y then { cpu := c, sys := { y with midDispatch := false } }
    else checked c { y with midDispatch := false, halted := false }
  (∀ (s t : State) (y : Sys), s.sys.halted = false → s.sys.midDispatch = false → s.rollFrame.executeOne = .next t →
    t.commit.sys.dispatchDue Config.dispatchBudget = .ok y → y.dispatchLeft = false → step s = .next (after t.cpu y)) ∧
  (∀ (s : State) (y : Sys), s.sys.halted = true → s.sys.midDispatch = false →
    s.rollFrame.idle.sys.dispatchDue Config.dispatchBudget = .ok y → y.dispatchLeft = false →
    step s = .next (after s.cpu y)) ∧
  (∀ (s : State) (y : Sys), s.sys.midDispatch = true →
    s.rollFrame.sys.dispatchDue Config.dispatchBudget = .ok y → y.dispatchLeft = false →
    step s = .next (after s.cpu y))

/-! ## THUMB -/

/-- 45_thumb_alu.md R421..R455: formats 1 to 4: each instruction is the flag-setting form of its ARM equivalent on low
registers; the register shifts and MUL take internal cycles. -/
def Obligations.ThumbAlu : Prop :=
  ∀ (rn rs rd : LowReg) (n : BitVec 5) (n3 : BitVec 3) (v : BitVec 8) (st : State),
    let x (r : LowReg) : Word := st.reg (0#1 ++ r)
    let c := st.cpu.cpsr.c
    let shifted (t : ShiftKind) := shiftImmediate t n (x rs) c
    let turned (t : ShiftKind) := shiftRegister t ((x rs).extractLsb' 0 8) (x rd) c
    let st1 : State := { st with sys := st.sys.paid 1 }
    exec (.tLslImm n rs rd) st = .next (st.thumbDone .mov rd 0#32 (shifted .lsl).1 (shifted .lsl).2) ∧
    exec (.tLsrImm n rs rd) st = .next (st.thumbDone .mov rd 0#32 (shifted .lsr).1 (shifted .lsr).2) ∧
    exec (.tAsrImm n rs rd) st = .next (st.thumbDone .mov rd 0#32 (shifted .asr).1 (shifted .asr).2) ∧
    exec (.tAddReg rn rs rd) st = .next (st.thumbDone .add rd (x rs) (x rn) c) ∧
    exec (.tSubReg rn rs rd) st = .next (st.thumbDone .sub rd (x rs) (x rn) c) ∧
    exec (.tAddImm3 n3 rs rd) st = .next (st.thumbDone .add rd (x rs) (n3.zeroExtend 32) c) ∧
    exec (.tSubImm3 n3 rs rd) st = .next (st.thumbDone .sub rd (x rs) (n3.zeroExtend 32) c) ∧
    exec (.tMovImm8 rd v) st = .next (st.thumbDone .mov rd 0#32 (v.zeroExtend 32) c) ∧
    exec (.tCmpImm8 rd v) st = .next (st.thumbDone .cmp rd (x rd) (v.zeroExtend 32) c) ∧
    exec (.tAddImm8 rd v) st = .next (st.thumbDone .add rd (x rd) (v.zeroExtend 32) c) ∧
    exec (.tSubImm8 rd v) st = .next (st.thumbDone .sub rd (x rd) (v.zeroExtend 32) c) ∧
    exec (.tAnd rs rd) st = .next (st.thumbDone .and rd (x rd) (x rs) c) ∧
    exec (.tEor rs rd) st = .next (st.thumbDone .eor rd (x rd) (x rs) c) ∧
    exec (.tLslReg rs rd) st = .next (st1.thumbDone .mov rd 0#32 (turned .lsl).1 (turned .lsl).2) ∧
    exec (.tLsrReg rs rd) st = .next (st1.thumbDone .mov rd 0#32 (turned .lsr).1 (turned .lsr).2) ∧
    exec (.tAsrReg rs rd) st = .next (st1.thumbDone .mov rd 0#32 (turned .asr).1 (turned .asr).2) ∧
    exec (.tAdc rs rd) st = .next (st.thumbDone .adc rd (x rd) (x rs) c) ∧
    exec (.tSbc rs rd) st = .next (st.thumbDone .sbc rd (x rd) (x rs) c) ∧
    exec (.tRorReg rs rd) st = .next (st1.thumbDone .mov rd 0#32 (turned .ror).1 (turned .ror).2) ∧
    exec (.tTst rs rd) st = .next (st.thumbDone .tst rd (x rd) (x rs) c) ∧
    exec (.tNeg rs rd) st = .next (st.thumbDone .rsb rd (x rs) 0#32 c) ∧
    exec (.tCmpReg rs rd) st = .next (st.thumbDone .cmp rd (x rd) (x rs) c) ∧
    exec (.tCmn rs rd) st = .next (st.thumbDone .cmn rd (x rd) (x rs) c) ∧
    exec (.tOrr rs rd) st = .next (st.thumbDone .orr rd (x rd) (x rs) c) ∧
    exec (.tMul rs rd) st = .next
      { cpu := st.cpu.wrote (0#1 ++ rd) (x rs * x rd) (st.cpu.cpsr.setNz (x rs * x rd)),
        sys := st.sys.paid (multiplierCycles true (x rd)) } ∧
    exec (.tBic rs rd) st = .next (st.thumbDone .bic rd (x rd) (x rs) c) ∧
    exec (.tMvn rs rd) st = .next (st.thumbDone .mvn rd 0#32 (x rs) c)

/-- 45_thumb_alu.md R460..R463: the hi-register operations: ADD and MOV write no flags and branch when they write R15; CMP
sets the flags of a subtraction. -/
def Obligations.ThumbHiRegisters : Prop :=
  ∀ (h1 h2 : Bool) (rs rd : LowReg) (st : State), (st.strict = true → h1 = true ∨ h2 = true) →
    let d : RegNum := BitVec.ofBool h1 ++ rd
    let s : RegNum := BitVec.ofBool h2 ++ rs
    let goes (v : Word) : State :=
      if d = 15#4 then st.branch v else { st with cpu := st.cpu.wrote d v st.cpu.cpsr }
    exec (.tAddHi h1 h2 rs rd) st = .next (goes (st.reg d + st.reg s)) ∧
    exec (.tMovHi h1 h2 rs rd) st = .next (goes (st.reg s)) ∧
    exec (.tCmpHi h1 h2 rs rd) st =
      .next { st with cpu := st.cpu.flagged (st.cpu.cpsr.setNzcv (subWithCarry (st.reg d) (st.reg s) true)) }

/-- 46_thumb_mem.md R480, R483, R484, R486..R488, R490, R492, R494, R496: the THUMB loads, with the address of each format;
the PC-relative one takes `(A + 4) AND NOT 3`. -/
def Obligations.ThumbLoads : Prop :=
  ∀ (ro rb rd : LowReg) (o : BitVec 5) (v : BitVec 8) (st : State), st.cpu.cpsr.t = true →
    let x (r : LowReg) : Word := st.reg (0#1 ++ r)
    exec (.tLdrPc rd v) st =
      .next (st.thumbLoaded .word rd (((st.cpu.pc + 4#32) &&& ~~~3#32) + 4#32 * v.zeroExtend 32)) ∧
    exec (.tLdrReg ro rb rd) st = .next (st.thumbLoaded .word rd (x rb + x ro)) ∧
    exec (.tLdrbReg ro rb rd) st = .next (st.thumbLoaded .byte rd (x rb + x ro)) ∧
    exec (.tLdrhReg ro rb rd) st = .next (st.thumbLoaded .half rd (x rb + x ro)) ∧
    exec (.tLdsbReg ro rb rd) st = .next (st.thumbLoaded .signedByte rd (x rb + x ro)) ∧
    exec (.tLdshReg ro rb rd) st = .next (st.thumbLoaded .signedHalf rd (x rb + x ro)) ∧
    exec (.tLdrImm o rb rd) st = .next (st.thumbLoaded .word rd (x rb + 4#32 * o.zeroExtend 32)) ∧
    exec (.tLdrbImm o rb rd) st = .next (st.thumbLoaded .byte rd (x rb + o.zeroExtend 32)) ∧
    exec (.tLdrhImm o rb rd) st = .next (st.thumbLoaded .half rd (x rb + 2#32 * o.zeroExtend 32)) ∧
    exec (.tLdrSp rd v) st = .next (st.thumbLoaded .word rd (st.reg 13#4 + 4#32 * v.zeroExtend 32))

/-- 46_thumb_mem.md R481, R482, R485, R489, R491, R493, R495: the THUMB stores, with the address of each format; no register
changes. -/
def Obligations.ThumbStores : Prop :=
  ∀ (ro rb rd : LowReg) (o : BitVec 5) (v : BitVec 8) (st : State) (i : Instr) (w : Width) (a : Word),
    (let x (r : LowReg) : Word := st.reg (0#1 ++ r)
     (i = .tStrReg ro rb rd ∧ w = .word ∧ a = x rb + x ro) ∨
     (i = .tStrbReg ro rb rd ∧ w = .byte ∧ a = x rb + x ro) ∨
     (i = .tStrhReg ro rb rd ∧ w = .half ∧ a = x rb + x ro) ∨
     (i = .tStrImm o rb rd ∧ w = .word ∧ a = x rb + 4#32 * o.zeroExtend 32) ∨
     (i = .tStrbImm o rb rd ∧ w = .byte ∧ a = x rb + o.zeroExtend 32) ∨
     (i = .tStrhImm o rb rd ∧ w = .half ∧ a = x rb + 2#32 * o.zeroExtend 32) ∨
     (i = .tStrSp rd v ∧ w = .word ∧ a = st.reg 13#4 + 4#32 * v.zeroExtend 32)) →
    st.sys.storeStops w a (st.reg (0#1 ++ rd)) = false →
    ∃ y, st.sys.store .nonseq w a (st.reg (0#1 ++ rd)) = .ok y ∧
      exec i st = .next { cpu := { st.cpu with pc := st.cpu.pc + widthOf st.cpu.cpsr.t }, sys := y }

/-- 46_thumb_mem.md R497..R499: the address forms of ADD write no flags. -/
def Obligations.ThumbAddresses : Prop :=
  ∀ (rd : LowReg) (v : BitVec 8) (s : Bool) (o : BitVec 7) (st : State), st.cpu.cpsr.t = true →
    let wrote (d : RegNum) (x : Word) : State := { st with cpu := st.cpu.wrote d x st.cpu.cpsr }
    exec (.tAddPc rd v) st = .next (wrote (0#1 ++ rd) (((st.cpu.pc + 4#32) &&& ~~~3#32) + 4#32 * v.zeroExtend 32)) ∧
    exec (.tAddSp rd v) st = .next (wrote (0#1 ++ rd) (st.reg 13#4 + 4#32 * v.zeroExtend 32)) ∧
    exec (.tAddSpImm s o) st = .next (wrote 13#4
      (if s then st.reg 13#4 - 4#32 * o.zeroExtend 32 else st.reg 13#4 + 4#32 * o.zeroExtend 32))

/-- 45_thumb_alu.md R464, 47_thumb_branch.md R530, R532..R534: the THUMB branches, each with its displacement, and the two
halves of BL. -/
def Obligations.ThumbBranches : Prop :=
  ∀ (c : Cond) (h1 h2 : Bool) (rs rd : LowReg) (o8 : BitVec 8) (o11 : BitVec 11) (st : State), st.cpu.cpsr.t = true →
    (condHolds c st.cpu.cpsr = true →
      let t := st.branch (st.cpu.pc + 4#32 + (o8 ++ 0#1).signExtend 32)
      exec (.tBcond0xxx c o8) st = .next t ∧ exec (.tBcond10xx c o8) st = .next t ∧
      exec (.tBcond110x c o8) st = .next t) ∧
    exec (.tB o11) st = .next (st.branch (st.cpu.pc + 4#32 + (o11 ++ 0#1).signExtend 32)) ∧
    exec (.tBlPrefix o11) st = .next { st with
      cpu := st.cpu.wrote 14#4 (st.cpu.pc + 4#32 + (o11 ++ 0#12).signExtend 32) st.cpu.cpsr } ∧
    exec (.tBlSuffix o11) st = .next ({ st with cpu := { st.cpu with
      regs := st.cpu.regs.set (physIndex st.cpu.bank 14#4) ((st.cpu.pc + 2#32) ||| 1#32) } }.branch
        (st.reg 14#4 + 2#32 * o11.zeroExtend 32)) ∧
    ((st.strict = true → h1 = false) →
      let v := st.reg (BitVec.ofBool h2 ++ rs)
      exec (.tBx h1 h2 rs rd) st = .next ({ st with cpu := { st.cpu with
        cpsr := { st.cpu.cpsr with t := v.getLsbD 0 } } }.branch v))

/-! ## Frames over all instructions -/

/-- 10_state.md R42 to R44 and the rules of every instruction: an instruction changes no general register of any bank but
the destinations the table `Instr.destinations` gives it. -/
def Obligations.RegisterFrame : Prop :=
  ∀ (i : Instr) (s t : State), exec i s = .next t →
    ∀ k : Fin 30, (∀ x ∈ i.destinations s, x.2 = 15#4 ∨ k ≠ physIndex x.1 x.2) → t.cpu.regs[k] = s.cpu.regs[k]

/-- 10_state.md R57, R63 to R65: an instruction changes the flags, the bit T, the mode and the masks, or an SPSR only where
the table `Instr.effects` says so. -/
def Obligations.StatusFrame : Prop :=
  ∀ (i : Instr) (s t : State), exec i s = .next t →
    (i.effects.flags = false → t.cpu.cpsr.n = s.cpu.cpsr.n ∧ t.cpu.cpsr.z = s.cpu.cpsr.z ∧
      t.cpu.cpsr.c = s.cpu.cpsr.c ∧ t.cpu.cpsr.v = s.cpu.cpsr.v) ∧
    (i.effects.thumb = false → t.cpu.cpsr.t = s.cpu.cpsr.t) ∧
    (i.effects.mode = false → t.cpu.cpsr.m = s.cpu.cpsr.m ∧ t.cpu.cpsr.i = s.cpu.cpsr.i ∧
      t.cpu.cpsr.f = s.cpu.cpsr.f) ∧
    (i.effects.spsr = false → t.cpu.spsr = s.cpu.spsr)

/-- 20_memory.md R107, R111..R113, R115, R118, R119 and the rules of every store: an instruction changes no byte of any byte
array but those its stores, with the widths and addresses of the table `Instr.stores`, reach. -/
def Obligations.MemoryFrame : Prop :=
  ∀ (i : Instr) (s t : State), exec i s = .next t →
    ∀ k : Nat, (∀ x ∈ i.stores s, s.sys.storeTouches x.1 x.2 k = false) →
      Memory.read t.sys.mem k = Memory.read s.sys.mem k

/-- 20_memory.md R162: an instruction without a store changes nothing outside the CPU but the fetch latches, the cost
charged, and the read-out of the EEPROM: that of the reference device, or the state of a supplied one (R150). -/
def Obligations.ReadsHaveNoEffect : Prop :=
  ∀ (i : Instr) (s t : State), exec i s = .next t → i.stores s = [] →
    s.sys.cost ≤ t.sys.cost ∧
    t.sys = { s.sys with
      lastFetch := t.sys.lastFetch, lastFetchAddr := t.sys.lastFetchAddr, biosLatch := t.sys.biosLatch,
      cost := t.sys.cost, eeprom := { s.sys.eeprom with out := t.sys.eeprom.out }, device := t.sys.device }

/-- 60_exceptions.md R585: in User mode every instruction but those that take an exception leaves the mode and the masks
I and F as they are, and no instruction but those changes an SPSR. -/
def Obligations.UserModeConfined : Prop :=
  ∀ (i : Instr) (s t : State), s.cpu.cpsr.m = 0b10000#5 → i.raisesSwi = false → i.raisesUndefined = false →
    exec i s = .next t →
    t.cpu.cpsr.m = 0b10000#5 ∧ t.cpu.cpsr.i = s.cpu.cpsr.i ∧ t.cpu.cpsr.f = s.cpu.cpsr.f ∧ t.cpu.spsr = s.cpu.spsr

/-- 00_scope.md R11, R12: no step is refused; and when UNPREDICTABLE cases are emulated, a step faults only for an invalid
mode, for STOP or for DMA3 video capture. -/
def Obligations.StepNeverRefuses : Prop :=
  (∀ (s : State) (r : Refusal), step s ≠ .refused r) ∧
  (∀ (s : State) (f : Fault), s.sys.params.unpred = .emulate → step s = .fault f →
    (∃ m, modeValid m = false ∧ f = .invalidMode m) ∨ f = .unmodelled .stop ∨ f = .unmodelled .dma3VideoCapture)

/-! ## Invariants every step keeps -/

/-- Every step keeps the memory list and the storage registers in canonical form. -/
def Obligations.StepKeepsMemoryCanonical : Prop :=
  ∀ s t : State, s.memoryCanonical → step s = .next t → t.memoryCanonical

/-- 10_state.md R51, R61, 60_exceptions.md R585: every step keeps the mode one of the seven and the program counter aligned for
the state of T. -/
def Obligations.StepKeepsCpuLegal : Prop := ∀ s t : State, s.cpu.legal → step s = .next t → t.cpu.legal

/-- 10_state.md R75, R76, 20_memory.md R107, R115: no step changes a byte of the BIOS or ROM image, or a parameter. -/
def Obligations.StepKeepsReadOnly : Prop :=
  ∀ s t : State, step s = .next t →
    (∀ k, readOnlyKey k = true → Memory.read t.sys.mem k = Memory.read s.sys.mem k) ∧ t.sys.params = s.sys.params

/-- 61_timers_dma.md R602, 62_ppu.md R671, R673..R675: every step keeps the event queue in dispatch order with each kind at most
once, and the PPU with exactly one event, at the cycle of its line, and its status flags at its position. -/
def Obligations.StepKeepsSchedule : Prop :=
  ∀ s t : State, s.sys.queueOrdered → s.sys.ppuCoherent → step s = .next t → t.sys.queueOrdered ∧ t.sys.ppuCoherent

/-- 60_exceptions.md R566, R567, 61_timers_dma.md R650, R660, R661, 20_memory.md R123: every step keeps the reserved bits of
these registers 0 and the sound FIFOs at most 32 bytes deep. -/
def Obligations.StepKeepsReservedClear : Prop :=
  ∀ s t : State, s.sys.reservedClear → step s = .next t → t.sys.reservedClear

/-- 61_timers_dma.md R600, R603, 20_memory.md R122: time never goes back, and a step that executes an instruction takes at least
one cycle; a step leaves no cost uncharged. -/
def Obligations.StepAdvancesTime : Prop :=
  ∀ s t : State, step s = .next t →
    s.sys.now ≤ t.sys.now ∧ (s.sys.halted = false → s.sys.midDispatch = false → s.sys.now < t.sys.now) ∧
    (s.sys.cost = 0 → t.sys.cost = 0)

/-! ## Reset -/

/-- 70_reset_and_hazards.md R770, R771, 10_state.md R80, R81, R86: the state after power-on with no image loaded and the
parameters of log entry 3 is `State.reset`, and it meets every invariant. -/
def Obligations.ResetState : Prop :=
  State.powerOn Params.reset [] = State.reset ∧
  State.reset.cpu.cpsr.toWord = 0x000000D3#32 ∧ State.reset.cpu.pc = 0#32 ∧
  (∀ k : Fin 30, State.reset.cpu.regs[k] = 0#32) ∧ (∀ k : Fin 5, State.reset.cpu.spsr[k].toWord = 0#32) ∧
  State.reset.sys.halted = false ∧ State.reset.sys.stopped = false ∧
  State.reset.sys.ie = 0#16 ∧ State.reset.sys.iflag = 0#16 ∧ State.reset.sys.ime = false ∧
  State.reset.sys.keyinput = 0x03FF#16 ∧ State.reset.sys.ppu.dispcnt = 0x0080#16 ∧ State.reset.sys.now = 0 ∧
  State.reset.sys.events = [{ cycle := 1006, kind := .hdrawEnd, seq := 0 }] ∧
  (∀ k, k < 0x0D000000 → Memory.read State.reset.sys.mem k = 0#8) ∧
  State.reset.memoryCanonical ∧ State.reset.cpu.legal ∧ State.reset.sys.queueOrdered ∧
  State.reset.sys.ppuCoherent ∧ State.reset.sys.reservedClear

/-! ## Devices -/

/-- 60_exceptions.md R566..R568, R575, 20_memory.md R126, R127: the interrupt registers through the bus: IE and IME store their
writable bits, IF is write-one-to-clear lane by lane, and HALTCNT halts or, for STOP, faults. -/
def Obligations.InterruptRegisters : Prop :=
  ∀ (y : Sys) (v : Word),
    y.memWrite .half 0x04000200#32 v = .ok { y with ie := (y.ie &&& 0xC000#16) ||| (v.extractLsb' 0 16 &&& 0x3FFF#16) } ∧
    (y.memRead .half 0x04000200#32).1 = (y.ie &&& 0x3FFF#16).zeroExtend 32 ∧
    y.memWrite .half 0x04000202#32 v = .ok { y with iflag := y.iflag &&& ~~~v.extractLsb' 0 16 } ∧
    y.memWrite .byte 0x04000202#32 v = .ok { y with iflag := y.iflag &&& ~~~(0#8 ++ v.extractLsb' 0 8) } ∧
    y.memWrite .byte 0x04000203#32 v = .ok { y with iflag := y.iflag &&& ~~~(v.extractLsb' 0 8 ++ 0#8) } ∧
    (y.memRead .half 0x04000202#32).1 = (y.iflag &&& 0x3FFF#16).zeroExtend 32 ∧
    y.memWrite .half 0x04000208#32 v = .ok { y with ime := v.getLsbD 0 } ∧
    (y.memRead .half 0x04000208#32).1 = (if y.ime then 1#32 else 0#32) ∧
    y.memWrite .byte 0x04000301#32 v =
      (if v.getLsbD 7 then .error (.unmodelled .stop) else .ok { y with halted := true })

/-- 61_timers_dma.md R612 to R614: a free-counting timer counts one up every prescaler period from the counter it started with,
and from its first overflow on runs through the values from its reload to 0xFFFF over and over. -/
def Obligations.TimerCounts : Prop :=
  ∀ (i : Fin 4) (tm : Timer) (k r : Nat), tm.freeCounting i = true → tm.counter0.toNat < 0x10000 → r < tm.prescale →
    (tm.counter0.toNat + k < 0x10000 →
      (tm.value i (tm.start + tm.prescale * k + r)).toNat = tm.counter0.toNat + k) ∧
    (∀ q j : Nat, j < 0x10000 - tm.reload.toNat →
      (tm.value i (tm.overflowAt + tm.prescale * ((0x10000 - tm.reload.toNat) * q + j) + r)).toNat =
        tm.reload.toNat + j)

/-- 61_timers_dma.md R614, R615: the overflow of timer 2: it reloads, its next overflow is queued when it counts freely, its
interrupt is requested when enabled, and a cascaded timer 3 counts one up and overflows in turn from 0xFFFF. -/
def Obligations.TimerOverflowCascades : Prop :=
  ∀ (y : Sys) (t : Nat), ∃ z, y.timerOverflow t 3 2 = .ok z ∧
    let t2 := y.timer 2
    let t3 := y.timer 3
    let chained := t3.enabled && t3.control.getLsbD 2
    let wraps := chained && t3.counter0 == 0xFFFF#17
    z.timer 2 = { t2 with counter0 := t2.reload.zeroExtend 17, start := t } ∧
    z.timer 3 = (if wraps then { t3 with counter0 := t3.reload.zeroExtend 17, start := t }
      else if chained then { t3 with counter0 := t3.counter0 + 1#17 } else t3) ∧
    z.iflag = y.iflag ||| (if t2.control.getLsbD 6 then 0x0020#16 else 0#16) |||
      (if wraps && t3.control.getLsbD 6 then 0x0040#16 else 0#16) ∧
    (t2.freeCounting 2 = true →
      { cycle := t + t2.prescale * (0x10000 - t2.reload.toNat), kind := .timer 2, seq := y.nextSeq } ∈ z.events)

/-- 61_timers_dma.md R620, R622: arming a DMA channel by a halfword write of its control register latches the source, the
destination and the count, a count of 0 standing for the largest; an Immediate channel queues its run at once; the
capture mode of channel 3 is a fault; disarming cancels the run. -/
def Obligations.DmaArming : Prop :=
  ∀ (y : Sys) (c : Fin 4) (v : Word),
    let d := y.dmaChannel c
    let a : Word := 0x040000BA#32 + BitVec.ofNat 32 (12 * c.val)
    let wm : Half := if c.val = 3 then 0xFFE0#16 else 0xF7E0#16
    let new := (d.cntH &&& ~~~wm) ||| (v.extractLsb' 0 16 &&& wm)
    let count : BitVec 17 := if d.cntL = 0#16 then (if c.val = 3 then 0x10000#17 else 0x4000#17) else d.cntL.zeroExtend 17
    let armed : DmaChannel := { d with cntH := new, isrc := d.sad, idst := d.dad, icount := count, armed := true }
    (d.cntH.getLsbD 15 = false → new.getLsbD 15 = true →
      y.memWrite .half a v =
        (if new.extractLsb' 12 2 = 0#2 then .ok ((y.setDma c armed).schedule y.now (.dma c))
         else if new.extractLsb' 12 2 = 3#2 ∧ c.val = 3 then .error (.unmodelled .dma3VideoCapture)
         else .ok (y.setDma c armed))) ∧
    (d.cntH.getLsbD 15 = true → new.getLsbD 15 = false →
      y.memWrite .half a v = .ok ((y.setDma c { d with cntH := new, armed := false }).cancel (.dma c))) ∧
    (d.cntH.getLsbD 15 = new.getLsbD 15 → y.memWrite .half a v = .ok (y.setDma c { d with cntH := new }))

/-- 61_timers_dma.md R636 to R638: a DMA run of `n` words from EWRAM to IWRAM, both addresses ascending, copies them, takes
seven cycles a word and two more, and requests its interrupt when asked; without Repeat the channel is disarmed and
its enable bit cleared. -/
def Obligations.DmaCopiesWords : Prop :=
  ∀ (y : Sys) (c : Fin 4) (n src dst : Nat),
    let d := y.dmaChannel c
    src % 4 = 0 → dst % 4 = 0 → src + 4 * n ≤ 0x40000 → dst + 4 * n ≤ 0x8000 →
    d.isrc = BitVec.ofNat 32 (0x02000000 + src) → d.idst = BitVec.ofNat 32 (0x03000000 + dst) → d.icount.toNat = n →
    d.cntH.extractLsb' 12 2 ≠ 3#2 → d.cntH.getLsbD 10 = true → d.cntH.extractLsb' 7 2 = 0#2 →
    d.cntH.extractLsb' 5 2 = 0#2 →
    ∃ z, y.runDma c = .ok z ∧
      (∀ k, k < n → Memory.read32 z.mem (iwramKey (dst + 4 * k)) = Memory.read32 y.mem (ewramKey (src + 4 * k))) ∧
      (∀ k, within (iwramKey dst) (4 * n) k = false → Memory.read z.mem k = Memory.read y.mem k) ∧
      z.now = y.now + 7 * n + 2 ∧
      z.iflag = (if d.cntH.getLsbD 14 then y.iflag ||| (1#16 <<< (8 + c.val)) else y.iflag) ∧
      (d.cntH.getLsbD 9 = false →
        (z.dmaChannel c).armed = false ∧ (z.dmaChannel c).cntH = d.cntH &&& 0x7FFF#16)

/-- 62_ppu.md R670, R673, R674, R677: the line events where no DMA channel is armed: HDraw end sets the H-Blank flag, renders a
visible line, requests its interrupt when enabled and queues the line's end 226 cycles later; the end of a line moves
to the next, advances the affine internal reference points after a visible line and reloads them at line 160, sets
V-Blank at line 160 and clears it at 227, compares VCOUNT with LYC, and queues HDraw end 1006 cycles later.  That the
advance wraps at the 28 bits R670 gives the reference points is the model's deduction (log entry 18). -/
def Obligations.LineEvents : Prop :=
  ∀ (y : Sys) (t : Nat), (∀ c : Fin 4, (y.dmaChannel c).armed = false) →
    (∃ z, y.hdrawEnd t = .ok z ∧ z.ppu = { y.ppu with phase := .hblank, dispstat := y.ppu.dispstat ||| 2#16 } ∧
      z.fb = (if h : y.ppu.vcount.val < 160 then
        y.fb.set y.ppu.vcount.val (Vector.ofFn (fun x : Fin 240 => pixelColour y.mem y.ppu y.ppu.vcount.val x.val))
        else y.fb) ∧
      z.iflag = (if y.ppu.dispstat.getLsbD 4 then y.iflag ||| 2#16 else y.iflag) ∧
      { cycle := t + 226, kind := .lineEnd, seq := y.nextSeq } ∈ z.events ∧ z.mem = y.mem) ∧
    (∃ z, y.lineEnd t = .ok z ∧
      let v : Nat := if y.ppu.vcount.val = 227 then 0 else y.ppu.vcount.val + 1
      let hit := decide ((y.ppu.dispstat.extractLsb' 8 8).toNat = v)
      z.ppu.vcount.val = v ∧ z.ppu.phase = .hdraw ∧ z.ppu.dispstat.getLsbD 1 = false ∧
      z.ppu.dispstat.getLsbD 0 =
        (if v = 160 then true else if v = 227 then false else y.ppu.dispstat.getLsbD 0) ∧
      z.ppu.dispstat.getLsbD 2 = hit ∧
      (let moved (g : AffineBg) : AffineBg :=
         if v = 160 then { g with rx := g.x, ry := g.y }
         else if y.ppu.vcount.val < 160 then { g with rx := g.rx + g.pb.signExtend 28, ry := g.ry + g.pd.signExtend 28 }
         else g
       z.ppu.bg2 = moved y.ppu.bg2 ∧ z.ppu.bg3 = moved y.ppu.bg3) ∧
      z.ppu.dispstat.extractLsb' 3 13 = y.ppu.dispstat.extractLsb' 3 13 ∧
      z.iflag = y.iflag ||| (if v = 160 ∧ y.ppu.dispstat.getLsbD 3 = true then 1#16 else 0#16) |||
        (if hit = true ∧ y.ppu.dispstat.getLsbD 5 = true then 4#16 else 0#16) ∧
      { cycle := t + 1006, kind := .hdrawEnd, seq := y.nextSeq } ∈ z.events ∧ z.mem = y.mem ∧ z.fb = y.fb)

/-- 62_ppu.md R740, R741: a rendered line is white in forced blank; in mode 3 with only BG2 enabled, no window, no effect and
the identity transform, each pixel is the low 15 bits of the halfword of VRAM at its place. -/
def Obligations.RenderedLine : Prop :=
  ∀ (y : Sys) (line x : Nat) (h : line < 160) (hx : x < 240),
    let p := y.ppu
    let colour := ((y.renderLine line h).fb[line])[x]
    (p.dispcnt.getLsbD 7 = true → colour = 0x7FFF#16) ∧
    (p.dispcnt.extractLsb' 0 3 = 3#3 → p.dispcnt.extractLsb' 7 9 = 0b000001000#9 →
      p.bldcnt.extractLsb' 6 2 = 0#2 →
      p.bg2.pa = 0x0100#16 → p.bg2.pc = 0#16 → p.bg2.rx = 0#28 → p.bg2.ry = BitVec.ofNat 28 (256 * line) →
      colour = Memory.read16 y.mem (vramKey (2 * (240 * line + x))) &&& 0x7FFF#16)
end

