-- ==== Sys2Proof/Laws/Decode.lean ====
section
/-! SUPPORT. How the decoder reads the parts an encoding is built from (spec/30_encoding.md R201, R202, R210): a bit or a
field of a concatenation lies in one of its two parts, and every enumerated field is read back. -/

namespace Sys2Proof

theorem bitAt_append_lo {m n : Nat} (x : BitVec m) (y : BitVec n) (k : Nat) (h : k < n) :
    bitAt (x ++ y) k = bitAt y k := by
  simp only [bitAt, BitVec.getLsbD_append]; rw [if_pos h]

theorem bitAt_append_hi {m n : Nat} (x : BitVec m) (y : BitVec n) (k : Nat) (h : n ≤ k) :
    bitAt (x ++ y) k = bitAt x (k - n) := by
  simp only [bitAt, BitVec.getLsbD_append]; rw [if_neg (by omega)]

theorem field_append_lo {m n : Nat} (x : BitVec m) (y : BitVec n) (lo len : Nat) (h : lo + len ≤ n) :
    field (x ++ y) lo len = field y lo len := by
  ext i hi; simp [field, BitVec.getLsbD_append]; omega

theorem field_append_hi {m n : Nat} (x : BitVec m) (y : BitVec n) (lo len : Nat) (h : n ≤ lo) :
    field (x ++ y) lo len = field x (lo - n) len := by
  ext i hi
  have h1 : ¬ lo + i < n := by omega
  have h2 : lo + i - n = lo - n + i := by omega
  simp [field, BitVec.getLsbD_append, h1, h2]

theorem field_all {n : Nat} (x : BitVec n) : field x 0 n = x := by
  ext i hi; simp [field]

theorem bitAt_ofBool (b : Bool) : bitAt (BitVec.ofBool b) 0 = b := by simp [bitAt]

theorem Cond.ofBits_bits (c : Cond) : Cond.ofBits c.bits = c := by cases c <;> rfl

theorem ShiftKind.ofBits_bits (c : ShiftKind) : ShiftKind.ofBits c.bits = c := by cases c <;> rfl

/-- The four bytes of a word joined give it back. -/
theorem joinWordBytes (w : Word) : (field w 24 8 ++ field w 16 8 ++ field w 8 8 ++ field w 0 8 : Word) = w := by
  refine BitVec.eq_of_getLsbD_eq fun i hi => ?_
  have h (x y z u : Byte) : BitVec.getLsbD (x ++ y ++ z ++ u : Word) i =
      if i < 8 then u.getLsbD i else if i - 8 < 8 then z.getLsbD (i - 8) else
        if i - 8 - 8 < 8 then y.getLsbD (i - 8 - 8) else x.getLsbD (i - 8 - 8 - 8) := by
    refine BitVec.getLsbD_append.trans ?_
    congr 1
    refine BitVec.getLsbD_append.trans ?_
    congr 1
    exact BitVec.getLsbD_append
  rw [h]
  simp only [field, BitVec.getLsbD_extractLsb']
  split
  · simp [*]
  · split
    · rename_i h1 h2; rw [show 8 + (i - 8) = i by omega]; simp [h2]
    · split
      · rename_i h1 h2 h3; rw [show 16 + (i - 8 - 8) = i by omega]; simp [h3]
      · rw [show 24 + (i - 8 - 8 - 8) = i by omega]; simp; omega

/-- The two bytes of a halfword joined give it back. -/
theorem joinHalfBytes (h : Half) : (field h 8 8 ++ field h 0 8 : Half) = h := by
  refine BitVec.eq_of_getLsbD_eq fun i hi => ?_
  have e (x y : Byte) : BitVec.getLsbD (x ++ y : Half) i = if i < 8 then y.getLsbD i else x.getLsbD (i - 8) :=
    BitVec.getLsbD_append
  rw [e]
  simp only [field, BitVec.getLsbD_extractLsb']
  split
  · simp [*]
  · rw [show 8 + (i - 8) = i by omega]; simp; omega

/-- The bytes of an ARM word decode to what the word decodes to. -/
theorem decode_armBytes (w : Word) (rest : List Byte) :
    decode false ((Code.arm w).bytes ++ rest) = .ok (decodeArm w, rest) := by
  simp [decode, Code.bytes, joinWordBytes]

/-- The bytes of a THUMB halfword decode to what the halfword decodes to. -/
theorem decode_thumbBytes (h : Half) (rest : List Byte) :
    decode true ((Code.thumb h).bytes ++ rest) = .ok (decodeThumb h, rest) := by
  simp [decode, Code.bytes, joinHalfBytes]

end Sys2Proof
end

