-- ==== Sys2Proof/Laws/Memory.lean ====
section
/-! SUPPORT. The laws of the sparse tables and of memory (spec/20_memory.md R101, R102): a read after a write, and the
canonical form, which every operation keeps. -/

namespace Sys2Proof.Machine

open Sys2Proof

/-! ## Reads after writes -/

theorem Sparse.get_insert_same (b : α) (l : List (Nat × α)) (a : Nat) (v : α) : Sparse.get b (Sparse.insert a v l) a = v := by
  induction l with
  | nil => simp [Sparse.insert, Sparse.get]
  | cons x l ih =>
    obtain ⟨k, w⟩ := x
    simp only [Sparse.insert]
    split
    · simp [Sparse.get]
    · split
      · simp [Sparse.get]
      · simp only [Sparse.get, ih]
        rw [if_neg (by omega)]

theorem Sparse.get_insert_other (b : α) (l : List (Nat × α)) {a a' : Nat} (v : α) (h : a' ≠ a) :
    Sparse.get b (Sparse.insert a v l) a' = Sparse.get b l a' := by
  induction l with
  | nil => simp [Sparse.insert, Sparse.get, Ne.symm h]
  | cons x l ih =>
    obtain ⟨k, w⟩ := x
    simp only [Sparse.insert]
    split
    · simp [Sparse.get, Ne.symm h]
    · split
      · rename_i h2
        subst h2
        simp [Sparse.get, Ne.symm h]
      · simp only [Sparse.get, ih]

theorem Sparse.get_erase_same (b : α) (l : List (Nat × α)) (a : Nat) : Sparse.get b (Sparse.erase a l) a = b := by
  induction l with
  | nil => rfl
  | cons x l ih =>
    obtain ⟨k, w⟩ := x
    simp only [Sparse.erase]
    split
    · exact ih
    · rename_i h
      simp [Sparse.get, h, ih]

theorem Sparse.get_erase_other (b : α) (l : List (Nat × α)) {a a' : Nat} (h : a' ≠ a) :
    Sparse.get b (Sparse.erase a l) a' = Sparse.get b l a' := by
  induction l with
  | nil => rfl
  | cons x l ih =>
    obtain ⟨k, w⟩ := x
    simp only [Sparse.erase]
    split
    · rename_i h2
      subst h2
      simp [Sparse.get, Ne.symm h, ih]
    · simp [Sparse.get, ih]

theorem Sparse.get_set_same [DecidableEq α] (b : α) (l : List (Nat × α)) (a : Nat) (v : α) :
    Sparse.get b (Sparse.set b l a v) a = v := by
  unfold Sparse.set
  split
  · rename_i h; rw [h]; exact Sparse.get_erase_same b l a
  · exact Sparse.get_insert_same b l a v

theorem Sparse.get_set_other [DecidableEq α] (b b' : α) (l : List (Nat × α)) {a a' : Nat} (v : α) (h : a' ≠ a) :
    Sparse.get b (Sparse.set b' l a v) a' = Sparse.get b l a' := by
  unfold Sparse.set
  split
  · exact Sparse.get_erase_other b l h
  · exact Sparse.get_insert_other b l v h

theorem Sparse.get_eraseRange (b : α) (l : List (Nat × α)) (lo hi a : Nat) :
    Sparse.get b (Sparse.eraseRange lo hi l) a = if lo ≤ a ∧ a < hi then b else Sparse.get b l a := by
  induction l with
  | nil => simp [Sparse.eraseRange, Sparse.get]
  | cons x l ih =>
    obtain ⟨k, w⟩ := x
    simp only [Sparse.eraseRange]
    by_cases hk : lo ≤ k ∧ k < hi
    · rw [if_pos hk, ih]
      by_cases hka : k = a
      · subst hka; simp [hk]
      · simp [Sparse.get, hka]
    · rw [if_neg hk]
      by_cases hka : k = a
      · subst hka; simp [Sparse.get, hk]
      · simp [Sparse.get, hka, ih]

/-! ## The canonical form -/

theorem Sparse.mem_insert {l : List (Nat × α)} {a : Nat} {v : α} {x : Nat × α} (h : x ∈ Sparse.insert a v l) :
    x = (a, v) ∨ x ∈ l := by
  induction l with
  | nil => exact .inl (by simpa [Sparse.insert] using h)
  | cons y l ih =>
    obtain ⟨k, w⟩ := y
    simp only [Sparse.insert] at h
    split at h
    · simpa using h
    · split at h
      · rcases List.mem_cons.1 h with h | h
        · exact .inl h
        · exact .inr (List.mem_cons_of_mem _ h)
      · rcases List.mem_cons.1 h with h | h
        · exact .inr (by simp [h])
        · exact (ih h).imp_right (List.mem_cons_of_mem _)

theorem Sparse.mem_erase {l : List (Nat × α)} {a : Nat} {x : Nat × α} (h : x ∈ Sparse.erase a l) : x ∈ l := by
  induction l with
  | nil => exact h
  | cons y l ih =>
    obtain ⟨k, w⟩ := y
    simp only [Sparse.erase] at h
    split at h
    · exact List.mem_cons_of_mem _ (ih h)
    · rcases List.mem_cons.1 h with h | h
      · simp [h]
      · exact List.mem_cons_of_mem _ (ih h)

theorem Sparse.mem_eraseRange {l : List (Nat × α)} {lo hi : Nat} {x : Nat × α} (h : x ∈ Sparse.eraseRange lo hi l) :
    x ∈ l := by
  induction l with
  | nil => exact h
  | cons y l ih =>
    obtain ⟨k, w⟩ := y
    simp only [Sparse.eraseRange] at h
    split at h
    · exact List.mem_cons_of_mem _ (ih h)
    · rcases List.mem_cons.1 h with h | h
      · simp [h]
      · exact List.mem_cons_of_mem _ (ih h)

theorem Sparse.wf_nil (b : Nat → α) : Sparse.wf b [] := ⟨.nil, by simp⟩

theorem Sparse.wf_insert {b : Nat → α} {l : List (Nat × α)} (a : Nat) {v : α} (hv : v ≠ b a) (h : Sparse.wf b l) :
    Sparse.wf b (Sparse.insert a v l) := by
  refine ⟨?_, fun x hx => (Sparse.mem_insert hx).elim (fun e => e ▸ hv) (h.2 x)⟩
  have hp := h.1
  clear h
  induction l with
  | nil => simp [Sparse.insert]
  | cons y l ih =>
    obtain ⟨k, w⟩ := y
    obtain ⟨h1, h2⟩ := List.pairwise_cons.1 hp
    simp only [Sparse.insert]
    split
    · rename_i hak
      refine List.pairwise_cons.2 ⟨fun x hx => ?_, hp⟩
      rcases List.mem_cons.1 hx with hx | hx
      · simpa [hx] using hak
      · exact hak.trans (h1 x hx)
    · split
      · rename_i hak
        subst hak
        exact List.pairwise_cons.2 ⟨h1, h2⟩
      · rename_i h3 h4
        refine List.pairwise_cons.2 ⟨fun x hx => ?_, ih h2⟩
        rcases Sparse.mem_insert hx with hx | hx
        · simp only [hx]; omega
        · exact h1 x hx

theorem Sparse.wf_erase {b : Nat → α} {l : List (Nat × α)} (a : Nat) (h : Sparse.wf b l) :
    Sparse.wf b (Sparse.erase a l) := by
  refine ⟨?_, fun x hx => h.2 x (Sparse.mem_erase hx)⟩
  have hp := h.1
  clear h
  induction l with
  | nil => exact .nil
  | cons y l ih =>
    obtain ⟨k, w⟩ := y
    obtain ⟨h1, h2⟩ := List.pairwise_cons.1 hp
    simp only [Sparse.erase]
    split
    · exact ih h2
    · exact List.pairwise_cons.2 ⟨fun x hx => h1 x (Sparse.mem_erase hx), ih h2⟩

theorem Sparse.wf_eraseRange {b : Nat → α} {l : List (Nat × α)} (lo hi : Nat) (h : Sparse.wf b l) :
    Sparse.wf b (Sparse.eraseRange lo hi l) := by
  refine ⟨?_, fun x hx => h.2 x (Sparse.mem_eraseRange hx)⟩
  have hp := h.1
  clear h
  induction l with
  | nil => exact .nil
  | cons y l ih =>
    obtain ⟨k, w⟩ := y
    obtain ⟨h1, h2⟩ := List.pairwise_cons.1 hp
    simp only [Sparse.eraseRange]
    split
    · exact ih h2
    · exact List.pairwise_cons.2 ⟨fun x hx => h1 x (Sparse.mem_eraseRange hx), ih h2⟩

theorem Sparse.wf_set [DecidableEq α] {b : Nat → α} {l : List (Nat × α)} (a : Nat) (v : α) (h : Sparse.wf b l) :
    Sparse.wf b (Sparse.set (b a) l a v) := by
  unfold Sparse.set
  split
  · exact Sparse.wf_erase a h
  · rename_i hv; exact Sparse.wf_insert a hv h

/-! ## Memory -/

@[simp] theorem Memory.read_nil (k : Nat) : Memory.read [] k = Memory.blank k := rfl

@[simp] theorem Memory.read_write_same (m : List Host.Cell) (k : Nat) (v : Byte) :
    Memory.read (Memory.write m k v) k = v := Sparse.get_set_same _ m k v

theorem Memory.read_write_other (m : List Host.Cell) {k k' : Nat} (v : Byte) (h : k' ≠ k) :
    Memory.read (Memory.write m k v) k' = Memory.read m k' := Sparse.get_set_other _ _ m v h

/-- A read after a write, as one case distinction. -/
theorem Memory.read_write (m : List Host.Cell) (k k' : Nat) (v : Byte) :
    Memory.read (Memory.write m k v) k' = if k' = k then v else Memory.read m k' := by
  split
  · rename_i h; subst h; exact Memory.read_write_same m _ v
  · rename_i h; exact Memory.read_write_other m v h

theorem Memory.wf_nil : Memory.wf [] := Sparse.wf_nil _

theorem Memory.wf_write {m : List Host.Cell} (k : Nat) (v : Byte) (h : Memory.wf m) : Memory.wf (Memory.write m k v) :=
  Sparse.wf_set k v h

theorem Memory.wf_write16 {m : List Host.Cell} (k : Nat) (v : Half) (h : Memory.wf m) :
    Memory.wf (Memory.write16 m k v) := Memory.wf_write _ _ (Memory.wf_write _ _ h)

theorem Memory.wf_write32 {m : List Host.Cell} (k : Nat) (v : Word) (h : Memory.wf m) :
    Memory.wf (Memory.write32 m k v) := Memory.wf_write16 _ _ (Memory.wf_write16 _ _ h)

theorem Memory.wf_writeLE {m : List Host.Cell} (w : Width) (k : Nat) (v : Word) (h : Memory.wf m) :
    Memory.wf (Memory.writeLE m w k v) := by
  cases w
  · exact Memory.wf_write _ _ h
  · exact Memory.wf_write16 _ _ h
  · exact Memory.wf_write32 _ _ h

theorem Memory.wf_eraseRange {m : List Host.Cell} (lo hi : Nat) (h : Memory.wf m) :
    Memory.wf (Sparse.eraseRange lo hi m) := Sparse.wf_eraseRange lo hi h

/-- A byte outside an erased range keeps its value. -/
theorem Memory.read_eraseRange_other (m : List Host.Cell) {lo hi k : Nat} (h : ¬ (lo ≤ k ∧ k < hi)) :
    Memory.read (Sparse.eraseRange lo hi m) k = Memory.read m k := by
  unfold Memory.read; rw [Sparse.get_eraseRange, if_neg h]

/-- A byte inside an erased range reads as unlisted. -/
theorem Memory.read_eraseRange_same (m : List Host.Cell) {lo hi k : Nat} (h : lo ≤ k ∧ k < hi) :
    Memory.read (Sparse.eraseRange lo hi m) k = Memory.blank k := by
  unfold Memory.read; rw [Sparse.get_eraseRange, if_pos h]

/-- A write of a width leaves every byte outside it. -/
theorem Memory.read_writeLE_other (m : List Host.Cell) (w : Width) (k : Nat) (v : Word) {k' : Nat}
    (h : k' < k ∨ k + w.bytes ≤ k') : Memory.read (Memory.writeLE m w k v) k' = Memory.read m k' := by
  cases w <;> simp only [Width.bytes] at h <;>
    simp only [Memory.writeLE, Memory.write32, Memory.write16, Memory.read_write] <;>
    (repeat rw [if_neg (by omega)])

/-- The bits of two bytes joined. -/
theorem getLsbD_joined (x y : Byte) (i : Nat) :
    BitVec.getLsbD (x ++ y : Half) i = if i < 8 then y.getLsbD i else x.getLsbD (i - 8) := BitVec.getLsbD_append

/-- Two halves of a halfword joined give it back. -/
theorem joinBytes (v : Half) : (v.extractLsb' 8 8 ++ v.extractLsb' 0 8 : Half) = v := by
  refine BitVec.eq_of_getLsbD_eq fun i hi => ?_
  rw [getLsbD_joined, BitVec.getLsbD_extractLsb', BitVec.getLsbD_extractLsb']
  split
  · simp [*]
  · rw [show 8 + (i - 8) = i by omega]; simp; omega

/-- Two halves of a word joined give it back. -/
theorem joinHalves (v : Word) : (v.extractLsb' 16 16 ++ v.extractLsb' 0 16 : Word) = v := by
  refine BitVec.eq_of_getLsbD_eq fun i hi => ?_
  have h : BitVec.getLsbD (v.extractLsb' 16 16 ++ v.extractLsb' 0 16 : Word) i =
    if i < 16 then (v.extractLsb' 0 16).getLsbD i else (v.extractLsb' 16 16).getLsbD (i - 16) := BitVec.getLsbD_append
  rw [h, BitVec.getLsbD_extractLsb', BitVec.getLsbD_extractLsb']
  split
  · simp [*]
  · rw [show 16 + (i - 16) = i by omega]; simp; omega

/-- A halfword read after it is written. -/
theorem Memory.read16_write16_same (m : List Host.Cell) (k : Nat) (v : Half) :
    Memory.read16 (Memory.write16 m k v) k = v := by
  simp only [Memory.read16, Memory.write16, Memory.read_write]
  simp [joinBytes]

/-- A halfword read after another is written. -/
theorem Memory.read16_write16_other (m : List Host.Cell) {k k' : Nat} (v : Half) (h : k' + 2 ≤ k ∨ k + 2 ≤ k') :
    Memory.read16 (Memory.write16 m k v) k' = Memory.read16 m k' := by
  simp only [Memory.read16, Memory.write16, Memory.read_write]
  repeat rw [if_neg (by omega)]

/-- A read of a width after a write of it at the same place. -/
theorem Memory.readLE_writeLE_same (m : List Host.Cell) (w : Width) (k : Nat) (v : Word) :
    Memory.readLE (Memory.writeLE m w k v) w k =
      match w with
      | .byte => v &&& 0xFF#32
      | .half => v &&& 0xFFFF#32
      | .word => v := by
  cases w
  · simp only [Memory.readLE, Memory.writeLE, Memory.read_write_same]
    ext i hi
    simp [BitVec.getLsbD_extractLsb']
    interval_cases i <;> simp
  · simp only [Memory.readLE, Memory.writeLE, Memory.read16_write16_same]
    ext i hi
    simp [BitVec.getLsbD_extractLsb']
    interval_cases i <;> simp
  · simp only [Memory.readLE, Memory.writeLE, Memory.read32, Memory.write32]
    rw [Memory.read16_write16_same, Memory.read16_write16_other _ _ (by omega), Memory.read16_write16_same, joinHalves]

/-- Two writes of a width leave a disjoint read as it was. -/
theorem Memory.readLE_writeLE_other (m : List Host.Cell) (w w' : Width) (k k' : Nat) (v : Word)
    (h : k' + w'.bytes ≤ k ∨ k + w.bytes ≤ k') :
    Memory.readLE (Memory.writeLE m w k v) w' k' = Memory.readLE m w' k' := by
  have hb : ∀ j, j < w'.bytes → Memory.read (Memory.writeLE m w k v) (k' + j) = Memory.read m (k' + j) := fun j hj =>
    Memory.read_writeLE_other m w k v (by omega)
  cases w'
  · simpa [Memory.readLE] using congrArg (BitVec.zeroExtend 32) (hb 0 (by decide))
  · have h0 := hb 0 (by decide)
    have h1 := hb 1 (by decide)
    simp only [Nat.add_zero] at h0
    simp only [Memory.readLE, Memory.read16, h0, h1]
  · have h0 := hb 0 (by decide)
    have h1 := hb 1 (by decide)
    have h2 := hb 2 (by decide)
    have h3 := hb 3 (by decide)
    simp only [Nat.add_zero] at h0
    simp only [Memory.readLE, Memory.read32, Memory.read16, h0, h1, h2, Nat.add_assoc, Nat.reduceAdd, h3]

end Sys2Proof.Machine
end

