-- ==== Sys2Proof/Laws/Scheduler.lean ====
section
/-! SUPPORT. The event queue (spec/61_timers_dma.md R602): an insertion and a removal keep the queue in dispatch order, and
touch no entry of another kind. -/

namespace Sys2Proof.Machine

open Sys2Proof

theorem Events.mem_insert {e x : Event} {l : List Event} : x ∈ Events.insert e l ↔ x = e ∨ x ∈ l := by
  induction l with
  | nil => simp [Events.insert]
  | cons y l ih =>
    simp only [Events.insert]
    split
    · simp only [List.mem_cons, ih]
      exact or_left_comm
    · simp

theorem Events.mem_remove {k : EventKind} {x : Event} {l : List Event} :
    x ∈ Events.remove k l ↔ x ∈ l ∧ x.kind ≠ k := by
  induction l with
  | nil => simp [Events.remove]
  | cons y l ih =>
    simp only [Events.remove]
    split
    · rw [ih]; simp only [List.mem_cons]
      exact ⟨fun h => ⟨.inr h.1, h.2⟩, fun h => ⟨h.1.resolve_left (fun e => h.2 (e ▸ ‹_›)), h.2⟩⟩
    · simp only [List.mem_cons, ih]
      constructor
      · rintro (rfl | h)
        · exact ⟨.inl rfl, ‹_›⟩
        · exact ⟨.inr h.1, h.2⟩
      · rintro ⟨rfl | h, hk⟩
        · exact .inl rfl
        · exact .inr ⟨h, hk⟩

theorem Events.remove_sublist (k : EventKind) (l : List Event) : (Events.remove k l).Sublist l := by
  induction l with
  | nil => exact .slnil
  | cons y l ih =>
    simp only [Events.remove]
    split
    · exact ih.cons y
    · exact ih.cons_cons y

/-- An entry inserted later than every queued one keeps the dispatch order. -/
theorem Events.insert_ordered {e : Event} {l : List Event} (h : l.Pairwise Event.before) (hs : ∀ x ∈ l, x.seq < e.seq) :
    (Events.insert e l).Pairwise Event.before := by
  induction l with
  | nil => simp [Events.insert]
  | cons y l ih =>
    obtain ⟨h1, h2⟩ := List.pairwise_cons.1 h
    simp only [Events.insert]
    split
    · rename_i hc
      refine List.pairwise_cons.2 ⟨fun x hx => ?_, ih h2 (fun x hx => hs x (by simp [hx]))⟩
      rcases Events.mem_insert.1 hx with rfl | hx
      · have := hs y (by simp)
        unfold Event.before; omega
      · exact h1 x hx
    · rename_i hc
      refine List.pairwise_cons.2 ⟨fun x hx => ?_, h⟩
      have hx' : y.cycle ≤ x.cycle := by
        rcases List.mem_cons.1 hx with rfl | hx
        · exact Nat.le_refl _
        · have := h1 x hx
          unfold Event.before at this; omega
      unfold Event.before; omega

theorem Events.insert_kinds {e : Event} {l : List Event} (h : l.Pairwise (fun a b => a.kind ≠ b.kind))
    (hk : ∀ x ∈ l, x.kind ≠ e.kind) : (Events.insert e l).Pairwise (fun a b => a.kind ≠ b.kind) := by
  induction l with
  | nil => simp [Events.insert]
  | cons y l ih =>
    obtain ⟨h1, h2⟩ := List.pairwise_cons.1 h
    simp only [Events.insert]
    split
    · refine List.pairwise_cons.2 ⟨fun x hx => ?_, ih h2 (fun x hx => hk x (by simp [hx]))⟩
      rcases Events.mem_insert.1 hx with rfl | hx
      · exact hk y (by simp)
      · exact h1 x hx
    · exact List.pairwise_cons.2 ⟨fun x hx => (hk x hx).symm, h⟩

theorem Events.filter_insert {e : Event} {l : List Event} (p : Event → Bool) (h : p e = false) :
    (Events.insert e l).filter p = l.filter p := by
  induction l with
  | nil => simp [Events.insert, h]
  | cons y l ih =>
    simp only [Events.insert]
    split
    · simp only [List.filter_cons, ih]
    · simp [List.filter_cons, h]

theorem Events.filter_remove {k : EventKind} {l : List Event} (p : Event → Bool)
    (h : ∀ x : Event, x.kind = k → p x = false) : (Events.remove k l).filter p = l.filter p := by
  induction l with
  | nil => rfl
  | cons y l ih =>
    simp only [Events.remove]
    split
    · simp [ih, h y ‹_›]
    · simp only [List.filter_cons, ih]

/-- `cancel` keeps the queue ordered (R602). -/
theorem Sys.cancel_ordered (k : EventKind) {y : Sys} (h : y.queueOrdered) : (y.cancel k).queueOrdered :=
  ⟨h.1.sublist (Events.remove_sublist k _), fun e he => h.2.1 e (Events.mem_remove.1 he).1,
    h.2.2.sublist (Events.remove_sublist k _)⟩

/-- `schedule` keeps the queue ordered, each kind at most once (R602). -/
theorem Sys.schedule_ordered (t : Nat) (k : EventKind) {y : Sys} (h : y.queueOrdered) :
    (y.schedule t k).queueOrdered := by
  have hs : ∀ x ∈ Events.remove k y.events, x.seq < y.nextSeq := fun x hx => h.2.1 x (Events.mem_remove.1 hx).1
  refine ⟨Events.insert_ordered (h.1.sublist (Events.remove_sublist k _)) hs, fun e he => ?_,
    Events.insert_kinds (h.2.2.sublist (Events.remove_sublist k _)) (fun x hx => (Events.mem_remove.1 hx).2)⟩
  rcases Events.mem_insert.1 he with rfl | he
  · exact Nat.lt_succ_self _
  · exact Nat.lt_succ_of_lt (hs e he)

/-- What is queued after `schedule` (R602). -/
theorem Sys.mem_schedule (t : Nat) (k : EventKind) (y : Sys) (e : Event) :
    e ∈ (y.schedule t k).events ↔
      e = { cycle := t, kind := k, seq := y.nextSeq } ∨ (e ∈ y.events ∧ e.kind ≠ k) := by
  simp only [Sys.schedule, Events.mem_insert, Events.mem_remove]

end Sys2Proof.Machine
end

