-- ==== Sys2Proof/Laws/System.lean ====
section
/-! SUPPORT. What the operations outside the CPU can do: `SysKeep` says what every one of them keeps, `SysStep` what every
one but the line events of the PPU keeps, and one lemma per operation says that it is such a step. -/

namespace Sys2Proof.Machine

open Sys2Proof

/-- Whether an entry is a line event of the PPU. -/
def Event.isLine (e : Event) : Bool := e.kind = .hdrawEnd || e.kind = .lineEnd

/-- What every operation outside the CPU keeps. -/
structure SysKeep (y z : Sys) : Prop where
  params   : z.params = y.params
  memory   : Memory.wf y.mem → Memory.wf z.mem
  storage  : Sparse.wf (fun _ => 0#16) y.storage → Sparse.wf (fun _ => 0#16) z.storage
  readOnly : ∀ k, readOnlyKey k = true → Memory.read z.mem k = Memory.read y.mem k
  now      : y.now ≤ z.now
  cost     : z.cost = y.cost
  reserved : y.reservedClear → z.reservedClear
  ordered  : y.queueOrdered → z.queueOrdered
  frameEnd : z.frameEndPrev = y.frameEndPrev
  mid      : z.midDispatch = y.midDispatch

/-- What every operation but the line events keeps beside that: the position of the PPU, its status flags, its events
and the framebuffer. -/
structure SysStep (y z : Sys) : Prop extends SysKeep y z where
  vcount : z.ppu.vcount = y.ppu.vcount
  phase  : z.ppu.phase = y.ppu.phase
  status : z.ppu.dispstat &&& 7#16 = y.ppu.dispstat &&& 7#16
  lines  : z.events.filter Event.isLine = y.events.filter Event.isLine
  fb     : z.fb = y.fb

theorem SysKeep.refl (y : Sys) : SysKeep y y :=
  ⟨rfl, id, id, fun _ _ => rfl, Nat.le_refl _, rfl, id, id, rfl, rfl⟩

theorem SysKeep.trans {x y z : Sys} (h : SysKeep x y) (g : SysKeep y z) : SysKeep x z :=
  ⟨g.params.trans h.params, g.memory ∘ h.memory, g.storage ∘ h.storage,
    fun k hk => (g.readOnly k hk).trans (h.readOnly k hk), h.now.trans g.now, g.cost.trans h.cost,
    g.reserved ∘ h.reserved, g.ordered ∘ h.ordered, g.frameEnd.trans h.frameEnd, g.mid.trans h.mid⟩

theorem SysStep.refl (y : Sys) : SysStep y y := ⟨SysKeep.refl y, rfl, rfl, rfl, rfl, rfl⟩

theorem SysStep.trans {x y z : Sys} (h : SysStep x y) (g : SysStep y z) : SysStep x z :=
  ⟨h.toSysKeep.trans g.toSysKeep, g.vcount.trans h.vcount, g.phase.trans h.phase, g.status.trans h.status,
    g.lines.trans h.lines, g.fb.trans h.fb⟩

/-- A step that leaves memory, the queue and the clock alone. -/
theorem SysStep.quiet {y z : Sys} (reserved : y.reservedClear → z.reservedClear)
    (status : z.ppu.dispstat &&& 7#16 = y.ppu.dispstat &&& 7#16 := by rfl) (mem : z.mem = y.mem := by rfl)
    (storage : z.storage = y.storage := by rfl) (params : z.params = y.params := by rfl)
    (now : z.now = y.now := by rfl) (cost : z.cost = y.cost := by rfl) (events : z.events = y.events := by rfl)
    (seq : z.nextSeq = y.nextSeq := by rfl) (frameEnd : z.frameEndPrev = y.frameEndPrev := by rfl)
    (mid : z.midDispatch = y.midDispatch := by rfl) (vcount : z.ppu.vcount = y.ppu.vcount := by rfl)
    (phase : z.ppu.phase = y.ppu.phase := by rfl) (fb : z.fb = y.fb := by rfl) : SysStep y z :=
  ⟨⟨params, fun h => mem ▸ h, fun h => storage ▸ h, fun _ _ => by rw [mem], Nat.le_of_eq now.symm, cost, reserved,
    fun h => by unfold Sys.queueOrdered; rw [events, seq]; exact h, frameEnd, mid⟩, vcount, phase, status,
    by rw [events], fb⟩

/-- A step that replaces memory only. -/
theorem SysStep.ofMem {y : Sys} {m : List Host.Cell} (wf : Memory.wf y.mem → Memory.wf m)
    (readOnly : ∀ k, readOnlyKey k = true → Memory.read m k = Memory.read y.mem k) : SysStep y { y with mem := m } :=
  ⟨⟨rfl, wf, id, readOnly, Nat.le_refl _, rfl, id, id, rfl, rfl⟩, rfl, rfl, rfl, rfl, rfl⟩

/-! ## Bits -/

/-- A lane write leaves the bits outside its mask (20_memory.md R127). -/
theorem mergeLanes_outside {wm m : Half} (h : wm &&& m = 0#16) (old value lanes : Half) :
    mergeLanes wm old value lanes &&& m = old &&& m := by
  refine BitVec.eq_of_getLsbD_eq fun i hi => ?_
  have hb := congrArg (BitVec.getLsbD · i) h
  simp only [BitVec.getLsbD_and, BitVec.getLsbD_zero] at hb
  simp only [mergeLanes, BitVec.getLsbD_and, BitVec.getLsbD_or, BitVec.getLsbD_not, hi, decide_true, Bool.true_and]
  revert hb
  cases wm.getLsbD i <;> cases m.getLsbD i <;> simp

/-- Setting bits outside a mask leaves the mask's bits. -/
theorem or_outside {a b m : Half} (h : b &&& m = 0#16) : (a ||| b) &&& m = a &&& m := by
  refine BitVec.eq_of_getLsbD_eq fun i _ => ?_
  have hb := congrArg (BitVec.getLsbD · i) h
  simp only [BitVec.getLsbD_and, BitVec.getLsbD_zero] at hb
  simp only [BitVec.getLsbD_and, BitVec.getLsbD_or]
  revert hb
  cases b.getLsbD i <;> cases m.getLsbD i <;> simp

/-- Clearing bits keeps cleared bits clear. -/
theorem and_clear {a b m : Half} (h : a &&& m = 0#16) : (a &&& b) &&& m = 0#16 := by
  refine BitVec.eq_of_getLsbD_eq fun i _ => ?_
  have hb := congrArg (BitVec.getLsbD · i) h
  simp only [BitVec.getLsbD_and, BitVec.getLsbD_zero] at hb ⊢
  revert hb
  cases a.getLsbD i <;> cases m.getLsbD i <;> simp

/-! ## Scheduler and interrupt requests -/

theorem SysStep.requestIrq (y : Sys) (bit : Nat) (h : bit < 14) : SysStep y (y.requestIrq bit) := by
  refine SysStep.quiet fun ⟨h1, h2, h3, h4, h5, h6, h7⟩ => ⟨h1, ?_, h3, h4, h5, h6, h7⟩
  rw [← h2]
  refine or_outside ?_
  interval_cases bit <;> decide

theorem EventKind.isLine_eq (k : EventKind) (t s : Nat) :
    Event.isLine { cycle := t, kind := k, seq := s } = (decide (k = .hdrawEnd) || decide (k = .lineEnd)) := rfl

theorem SysKeep.cancel (y : Sys) (k : EventKind) : SysKeep y (y.cancel k) :=
  ⟨rfl, id, id, fun _ _ => rfl, Nat.le_refl _, rfl, id, Sys.cancel_ordered k, rfl, rfl⟩

theorem SysKeep.schedule (y : Sys) (t : Nat) (k : EventKind) : SysKeep y (y.schedule t k) :=
  ⟨rfl, id, id, fun _ _ => rfl, Nat.le_refl _, rfl, id, Sys.schedule_ordered t k, rfl, rfl⟩

theorem SysStep.cancel (y : Sys) (k : EventKind) (h : k ≠ .hdrawEnd ∧ k ≠ .lineEnd) : SysStep y (y.cancel k) :=
  ⟨SysKeep.cancel y k, rfl, rfl, rfl, Events.filter_remove _ fun x hx => by simp [Event.isLine, hx, h], rfl⟩

theorem SysStep.schedule (y : Sys) (t : Nat) (k : EventKind) (h : k ≠ .hdrawEnd ∧ k ≠ .lineEnd) :
    SysStep y (y.schedule t k) :=
  ⟨SysKeep.schedule y t k, rfl, rfl, rfl, by
    simp only [Sys.schedule]
    rw [Events.filter_insert _ (by simp [Event.isLine, h]), Events.filter_remove _ fun x hx => by simp [Event.isLine, hx, h]],
    rfl⟩

/-! ## Read-only bytes -/

/-- The keys of the writable arrays are not read-only keys. -/
theorem readOnlyKey_iff (k : Nat) : readOnlyKey k = true ↔ k < 0x4000 ∨ (0x08000000 ≤ k ∧ k < 0x0A000000) := by
  simp [readOnlyKey, within, biosKey, romKey, Config.biosSize]

/-- A write of a width whose bytes are no read-only bytes leaves those. -/
theorem readOnly_writeLE (m : List Host.Cell) (w : Width) (k : Nat) (v : Word)
    (h : (0x4000 ≤ k ∧ k + 4 ≤ 0x08000000) ∨ 0x0A000000 ≤ k) {k' : Nat} (hk : readOnlyKey k' = true) :
    Memory.read (Memory.writeLE m w k v) k' = Memory.read m k' := by
  rw [readOnlyKey_iff] at hk
  refine Memory.read_writeLE_other m w k v ?_
  cases w <;> simp only [Width.bytes] <;> omega

/-- A byte written that is no read-only byte leaves those. -/
theorem readOnly_write (m : List Host.Cell) (k : Nat) (v : Byte)
    (h : (0x4000 ≤ k ∧ k < 0x08000000) ∨ 0x0A000000 ≤ k) {k' : Nat} (hk : readOnlyKey k' = true) :
    Memory.read (Memory.write m k v) k' = Memory.read m k' := by
  rw [readOnlyKey_iff] at hk
  exact Memory.read_write_other m v (by omega)

/-! ## Backup devices -/

/-- Programming and erasing touch the Flash bytes only (20_memory.md R151). -/
theorem SysStep.flashWrite (y : Sys) (b : Nat) (d : Byte) : SysStep y (y.flashWrite b d) := by
  have hgo : ∀ st, SysStep y (y.flashGoto st) := fun st => SysStep.quiet id
  have herase : ∀ lo hi, 0x0A000000 ≤ lo →
      SysStep y { y with mem := Sparse.eraseRange lo hi y.mem, flash := { y.flash with step := .ready } } := by
    intro lo hi hlo
    refine SysStep.trans (SysStep.ofMem (m := Sparse.eraseRange lo hi y.mem) (Memory.wf_eraseRange _ _) ?_)
      (SysStep.quiet id)
    intro k hk
    rw [readOnlyKey_iff] at hk
    exact Memory.read_eraseRange_other _ (by omega)
  unfold Sys.flashWrite
  cases y.flash.step <;> simp only
  · split
    · exact hgo _
    · split
      · exact SysStep.quiet id
      · exact SysStep.refl y
  · exact hgo _
  · split
    · unfold Sys.flashCommand
      split
      · exact SysStep.quiet id
      · exact SysStep.quiet id
      · exact hgo _
      · exact hgo _
      · exact hgo _
      · exact hgo _
    · exact hgo _
  · exact hgo _
  · exact hgo _
  · split
    · exact herase _ _ (by simp [flashKey])
    · split
      · exact herase _ _ (by simp only [flashKey]; omega)
      · exact hgo _
  · refine SysStep.trans (SysStep.ofMem (m := Memory.write y.mem (flashKey (y.flash.bankBase + b)) d)
      (Memory.wf_write _ _) ?_) (SysStep.quiet id)
    exact fun k hk => readOnly_write _ _ _ (.inr (by simp only [flashKey]; omega)) hk
  · split
    · exact SysStep.quiet id
    · exact hgo _

theorem eepromStoreBits_wf (m : List Host.Cell) (base : Nat) (bits : List Bool) (n : Nat) (h : Memory.wf m) :
    Memory.wf (eepromStoreBits m base bits n) := by
  induction n generalizing m base bits with
  | zero => exact h
  | succ n ih => exact ih _ _ _ (Memory.wf_write _ _ h)

theorem eepromStoreBits_other (m : List Host.Cell) (base : Nat) (bits : List Bool) (n : Nat) {k : Nat}
    (h : k < base ∨ base + n ≤ k) : Memory.read (eepromStoreBits m base bits n) k = Memory.read m k := by
  induction n generalizing m base bits with
  | zero => rfl
  | succ n ih =>
    rw [eepromStoreBits, ih _ _ _ (by omega)]
    exact Memory.read_write_other _ _ (by omega)

/-- A bit written to the EEPROM touches the EEPROM's bytes only (20_memory.md R152). -/
theorem SysStep.eepromWriteBit (y : Sys) (b : Bool) : SysStep y (y.eepromWriteBit b) := by
  unfold Sys.eepromWriteBit
  simp only
  split
  · split
    · exact SysStep.quiet id
    · split <;> exact SysStep.quiet id
  · split
    · exact SysStep.quiet id
    · split
      · exact SysStep.quiet id
      · refine SysStep.trans (SysStep.ofMem (eepromStoreBits_wf _ _ _ _) ?_) (SysStep.quiet id)
        intro k hk
        rw [readOnlyKey_iff] at hk
        exact eepromStoreBits_other _ _ _ _ (by simp only [Sys.eepromBlockKey, eepromKey]; omega)
  · exact SysStep.quiet id
  · exact SysStep.quiet id

/-- A write to the backup device, the reference one or a supplied one (20_memory.md R150). -/
theorem SysStep.deviceWrite8 (y : Sys) (b : Nat) (d : Byte) : SysStep y (y.deviceWrite8 b d) := by
  unfold Sys.deviceWrite8
  split
  · exact SysStep.flashWrite y b d
  · exact SysStep.quiet id

theorem SysStep.deviceWriteBit (y : Sys) (b : Bool) : SysStep y (y.deviceWriteBit b) := by
  unfold Sys.deviceWriteBit
  split
  · exact SysStep.eepromWriteBit y b
  · exact SysStep.quiet id

/-- A bit read from the backup device changes its read-out, or the state of a supplied device, alone (20_memory.md R150,
R152). -/
theorem Sys.deviceReadBit_eq (y : Sys) :
    y.deviceReadBit.2 =
      { y with eeprom := { y.eeprom with out := y.deviceReadBit.2.eeprom.out }, device := y.deviceReadBit.2.device } := by
  unfold Sys.deviceReadBit Sys.eepromReadBit
  split
  · split <;> rfl
  · rfl

theorem Sys.eepromRead_snd (y : Sys) (w : Width) : (y.eepromRead w).2 = y.deviceReadBit.2 := by cases w <;> rfl

theorem SysStep.eepromRead (y : Sys) (w : Width) : SysStep y (y.eepromRead w).2 := by
  rw [Sys.eepromRead_snd, Sys.deviceReadBit_eq]
  exact SysStep.quiet id

/-- The size of an EEPROM without one changes nothing else (20_memory.md R152). -/
theorem Sys.sizeEeprom_eq (c : Fin 4) (dst : Word) (units : Nat) (y : Sys) :
    y.sizeEeprom c dst units =
      { y with eeprom := { y.eeprom with wide := (y.sizeEeprom c dst units).eeprom.wide } } := by
  unfold Sys.sizeEeprom
  split <;> rfl

theorem SysStep.sizeEeprom (y : Sys) (c : Fin 4) (dst : Word) (units : Nat) : SysStep y (y.sizeEeprom c dst units) := by
  rw [Sys.sizeEeprom_eq]
  exact SysStep.quiet id

theorem SysStep.backupWrite (y : Sys) (a : Word) (d : Byte) : SysStep y (y.backupWrite a d) := by
  unfold Sys.backupWrite
  simp only
  split
  · exact SysStep.ofMem (Memory.wf_write _ _) fun k hk => readOnly_write _ _ _ (.inr (by simp only [sramKey]; omega)) hk
  · exact SysStep.deviceWrite8 y _ d
  · exact SysStep.deviceWrite8 y _ d
  · exact SysStep.refl y
  · exact SysStep.refl y
  · exact SysStep.refl y
  · exact SysStep.refl y

/-! ## I/O registers -/

theorem SysStep.setDma (y : Sys) (c : Fin 4) (d : DmaChannel) : SysStep y (y.setDma c d) := SysStep.quiet id

theorem SysStep.setTimer (y : Sys) (i : Fin 4) (tm : Timer) : SysStep y (y.setTimer i tm) := SysStep.quiet id

theorem SysStep.ofIte {y z w : Sys} (c : Prop) [Decidable c] (hz : SysStep y z) (hw : SysStep y w) :
    SysStep y (if c then z else w) := by
  split
  · exact hz
  · exact hw

theorem SysStep.writeTimerControl (y : Sys) (i : Fin 4) (new : Half) : SysStep y (y.writeTimerControl i new) := by
  have h := (SysStep.setTimer y i ((y.timer i).writeControl i y.now new)).trans
    (SysStep.cancel _ (.timer i) ⟨by simp, by simp⟩)
  unfold Sys.writeTimerControl
  exact SysStep.ofIte _ (h.trans (SysStep.schedule _ _ _ ⟨by simp, by simp⟩)) h

/-- The next system of an operation that may fault, if it has one, is such a step. -/
def StepOk (y : Sys) (r : Except Fault Sys) : Prop := ∀ z, r = .ok z → SysStep y z

theorem StepOk.ok {y z : Sys} (h : SysStep y z) : StepOk y (.ok z) := fun _ e => by cases e; exact h

theorem StepOk.error (y : Sys) (f : Fault) : StepOk y (.error f) := fun _ e => by cases e

theorem StepOk.after {x y : Sys} {r : Except Fault Sys} (h : SysStep x y) (g : StepOk y r) : StepOk x r :=
  fun z e => h.trans (g z e)

theorem SysStep.writeDmaCntH (y : Sys) (c : Fin 4) (new : Half) : StepOk y (y.writeDmaCntH c new) := by
  unfold Sys.writeDmaCntH
  simp only
  split
  · split
    · exact .ok ((SysStep.setDma y _ _).trans (SysStep.schedule _ _ _ ⟨by simp, by simp⟩))
    · split
      · exact .error _ _
      · exact .ok (SysStep.setDma y _ _)
    · exact .ok (SysStep.setDma y _ _)
    · exact .ok (SysStep.setDma y _ _)
  · split
    · exact .ok ((SysStep.setDma y _ _).trans (SysStep.cancel _ _ ⟨by simp, by simp⟩))
    · exact .ok (SysStep.setDma y _ _)

theorem Fifo.push_length (v : Byte) (q : Fifo) (h : q.queue.length ≤ 32) : (q.push v).queue.length ≤ 32 := by
  unfold Fifo.push
  split
  · simp; omega
  · exact h

theorem Fifo.write_length (value lanes : Half) (q : Fifo) (h : q.queue.length ≤ 32) :
    (q.write value lanes).queue.length ≤ 32 := by
  have h1 : (if lanes.getLsbD 0 then q.push (value.extractLsb' 0 8) else q).queue.length ≤ 32 := by
    split
    · exact Fifo.push_length _ _ h
    · exact h
  unfold Fifo.write
  simp only
  split
  · exact Fifo.push_length _ _ h1
  · exact h1

theorem SysStep.setFifo (y : Sys) (x : FifoName) (q : Fifo)
    (h : (y.fifo x).queue.length ≤ 32 → q.queue.length ≤ 32) : SysStep y (y.setFifo x q) := by
  cases x
  · exact SysStep.quiet fun ⟨h1, h2, h3, h4, h5, h6, h7⟩ => ⟨h1, h2, h3, h4, h5, h h6, h7⟩
  · exact SysStep.quiet fun ⟨h1, h2, h3, h4, h5, h6, h7⟩ => ⟨h1, h2, h3, h4, h5, h6, h h7⟩

theorem SysStep.writeSoundcntH (y : Sys) (value lanes : Half) : SysStep y (y.writeSoundcntH value lanes) := by
  have h1 : SysStep y { y with soundcntH := mergeLanes 0xFF0F#16 y.soundcntH value lanes } := SysStep.quiet id
  unfold Sys.writeSoundcntH
  simp only
  refine SysStep.ofIte _ (SysStep.trans (SysStep.ofIte _ ?_ h1) (SysStep.quiet
    fun ⟨a1, a2, a3, a4, a5, a6, a7⟩ => ⟨a1, a2, a3, a4, a5, a6, by simp⟩)) (SysStep.ofIte _ ?_ h1) <;>
    exact h1.trans (SysStep.quiet fun ⟨a1, a2, a3, a4, a5, a6, a7⟩ => ⟨a1, a2, a3, a4, a5, by simp, a7⟩)

theorem SysStep.evalKeypad (y : Sys) : SysStep y y.evalKeypad := by
  unfold Sys.evalKeypad
  exact SysStep.ofIte _ (SysStep.requestIrq y 12 (by decide)) (SysStep.refl y)

theorem SysStep.writePostHalt (y : Sys) (value lanes : Half) : StepOk y (y.writePostHalt value lanes) := by
  have h1 : SysStep y (if lanes.getLsbD 0 then { y with postflg := value.getLsbD 0 } else y) :=
    SysStep.ofIte _ (SysStep.quiet id) (SysStep.refl y)
  unfold Sys.writePostHalt
  simp only
  split
  · split
    · exact .error _ _
    · exact .ok (h1.trans (SysStep.quiet id))
  · exact .ok h1

/-- A 16-bit write of an I/O register (20_memory.md R127). -/
theorem SysStep.ioWrite16 (y : Sys) (r : IoReg) (value lanes : Half) : StepOk y (y.ioWrite16 r value lanes) := by
  cases r <;> simp only [Sys.ioWrite16]
  case dispstat => exact .ok (SysStep.quiet id (mergeLanes_outside (by decide) _ _ _))
  case soundcntH => exact .ok (SysStep.writeSoundcntH y _ _)
  case fifo x => exact .ok (SysStep.setFifo y x _ (Fifo.write_length _ _ _))
  case dmaCntH c => exact SysStep.writeDmaCntH y c _
  case tmCntH i => exact .ok (SysStep.writeTimerControl y i _)
  case keycnt =>
    have h : SysStep y { y with keycnt := mergeLanes 0xC3FF#16 y.keycnt value lanes } :=
      SysStep.quiet fun ⟨h1, h2, h3, h4, h5, h6, h7⟩ =>
        ⟨h1, h2, h3, (mergeLanes_outside (by decide) _ _ _).trans h4, h5, h6, h7⟩
    exact .ok (h.trans (SysStep.evalKeypad _))
  case ie =>
    exact .ok (SysStep.quiet fun ⟨h1, h2, h3, h4, h5, h6, h7⟩ =>
      ⟨(mergeLanes_outside (by decide) _ _ _).trans h1, h2, h3, h4, h5, h6, h7⟩)
  case iflag => exact .ok (SysStep.quiet fun ⟨h1, h2, h3, h4, h5, h6, h7⟩ => ⟨h1, and_clear h2, h3, h4, h5, h6, h7⟩)
  case waitcnt =>
    exact .ok (SysStep.quiet fun ⟨h1, h2, h3, h4, h5, h6, h7⟩ =>
      ⟨h1, h2, h3, h4, (mergeLanes_outside (by decide) _ _ _).trans h5, h6, h7⟩)
  case postflgHaltcnt => exact SysStep.writePostHalt y _ _
  case storage o =>
    exact .ok ⟨⟨rfl, id, Sparse.wf_set _ _, fun _ _ => rfl, Nat.le_refl _, rfl, id, id, rfl, rfl⟩, rfl, rfl, rfl, rfl, rfl⟩
  case affine b r => cases b <;> exact .ok (SysStep.quiet id)
  case vcount => exact .ok (SysStep.refl y)
  case keyinput => exact .ok (SysStep.refl y)
  case unused => exact .ok (SysStep.refl y)
  all_goals exact .ok (SysStep.quiet id)

/-- A write to the I/O region (20_memory.md R126). -/
theorem SysStep.ioWrite (y : Sys) (w : Width) (o : Nat) (v : Word) : StepOk y (y.ioWrite w o v) := by
  cases w <;> simp only [Sys.ioWrite]
  · exact SysStep.ioWrite16 y _ _ _
  · exact SysStep.ioWrite16 y _ _ _
  · split
    · rename_i y' hy
      exact .after (SysStep.ioWrite16 y _ _ _ y' hy) (SysStep.ioWrite16 y' _ _ _)
    · exact .error _ _

/-! ## The bus -/

theorem vramOffset_lt (a : Word) : vramOffset a < 0x18000 := by
  unfold vramOffset
  simp only
  split <;> omega

theorem pramWrite_wf (m : List Host.Cell) (w : Width) (o : Nat) (v : Word) (h : Memory.wf m) :
    Memory.wf (pramWrite m w o v) := by
  cases w <;> simp only [pramWrite]
  · exact Memory.wf_write _ _ (Memory.wf_write _ _ h)
  · exact Memory.wf_writeLE _ _ _ h
  · exact Memory.wf_writeLE _ _ _ h

theorem vramWrite_wf (m : List Host.Cell) (d : Half) (w : Width) (o : Nat) (v : Word) (h : Memory.wf m) :
    Memory.wf (vramWrite m d w o v) := by
  cases w <;> simp only [vramWrite]
  · split
    · exact Memory.wf_write _ _ (Memory.wf_write _ _ h)
    · exact h
  · exact Memory.wf_writeLE _ _ _ h
  · exact Memory.wf_writeLE _ _ _ h

theorem oamWrite_wf (m : List Host.Cell) (w : Width) (o : Nat) (v : Word) (h : Memory.wf m) :
    Memory.wf (oamWrite m w o v) := by
  cases w <;> simp only [oamWrite]
  · exact h
  · exact Memory.wf_writeLE _ _ _ h
  · exact Memory.wf_writeLE _ _ _ h

/-- A write through the bus (20_memory.md R107): it keeps the canonical form and the read-only bytes, and it moves
neither the clock nor the PPU. -/
theorem SysStep.memWrite (y : Sys) (w : Width) (addr v : Word) : StepOk y (y.memWrite w addr v) := by
  unfold Sys.memWrite
  simp only
  split
  · exact .ok (SysStep.refl y)
  · exact .ok (SysStep.ofMem (Memory.wf_writeLE _ _ _)
      fun k hk => readOnly_writeLE _ _ _ _ (.inl (by simp only [ewramKey]; omega)) hk)
  · exact .ok (SysStep.ofMem (Memory.wf_writeLE _ _ _)
      fun k hk => readOnly_writeLE _ _ _ _ (.inl (by simp only [iwramKey]; omega)) hk)
  · split
    · exact SysStep.ioWrite y w _ v
    · exact .ok (SysStep.refl y)
  · refine .ok (SysStep.ofMem (pramWrite_wf _ _ _ _) fun k hk => ?_)
    cases w <;> simp only [pramWrite]
    · rw [readOnly_write _ _ _ (.inl (by simp only [pramKey]; omega)) hk,
        readOnly_write _ _ _ (.inl (by simp only [pramKey]; omega)) hk]
    · exact readOnly_writeLE _ _ _ _ (.inl (by simp only [pramKey]; omega)) hk
    · exact readOnly_writeLE _ _ _ _ (.inl (by simp only [pramKey]; omega)) hk
  · refine .ok (SysStep.ofMem (vramWrite_wf _ _ _ _ _) fun k hk => ?_)
    have hv := vramOffset_lt (w.align addr)
    cases w <;> simp only [vramWrite]
    · split
      · rw [readOnly_write _ _ _ (.inl (by simp only [vramKey]; omega)) hk,
          readOnly_write _ _ _ (.inl (by simp only [vramKey]; omega)) hk]
      · rfl
    · exact readOnly_writeLE _ _ _ _ (.inl (by simp only [vramKey]; omega)) hk
    · exact readOnly_writeLE _ _ _ _ (.inl (by simp only [vramKey]; omega)) hk
  · refine .ok (SysStep.ofMem (oamWrite_wf _ _ _ _) fun k hk => ?_)
    cases w <;> simp only [oamWrite]
    · exact readOnly_writeLE _ _ _ _ (.inl (by simp only [oamKey]; omega)) hk
    · exact readOnly_writeLE _ _ _ _ (.inl (by simp only [oamKey]; omega)) hk
  · refine .ok ?_
    unfold Sys.romWrite
    exact SysStep.ofIte _ (SysStep.deviceWriteBit y _) (SysStep.refl y)
  · exact .ok (SysStep.backupWrite y _ _)
  · exact .ok (SysStep.refl y)

/-- A read through the bus changes at most the EEPROM's read-out or a supplied device (20_memory.md R106, R162). -/
theorem Sys.memRead_eq (y : Sys) (w : Width) (addr : Word) :
    (y.memRead w addr).2 =
      { y with eeprom := { y.eeprom with out := (y.memRead w addr).2.eeprom.out },
               device := (y.memRead w addr).2.device } := by
  unfold Sys.memRead
  simp only
  split
  · rw [Sys.eepromRead_snd]
    exact Sys.deviceReadBit_eq y
  · rfl

theorem SysStep.memRead (y : Sys) (w : Width) (addr : Word) : SysStep y (y.memRead w addr).2 := by
  unfold Sys.memRead
  simp only
  split
  · exact SysStep.eepromRead y w
  · exact SysStep.refl y

/-- A fetch changes the latches, and at most the EEPROM's read-out or a supplied device (20_memory.md R120). -/
theorem Sys.memFetch_eq (y : Sys) (thumb : Bool) (addr : Word) :
    (y.memFetch thumb addr).2 =
      { y with
        lastFetch := (y.memFetch thumb addr).2.lastFetch, lastFetchAddr := addr,
        biosLatch := (y.memFetch thumb addr).2.biosLatch,
        eeprom := { y.eeprom with out := (y.memFetch thumb addr).2.eeprom.out },
        device := (y.memFetch thumb addr).2.device } := by
  have h := Sys.memRead_eq { y with lastFetchAddr := addr } (fetchWidth thumb) addr
  unfold Sys.memFetch
  simp only
  generalize Sys.memRead { y with lastFetchAddr := addr } (fetchWidth thumb) addr = r at h ⊢
  obtain ⟨v, z⟩ := r
  simp only at h ⊢
  split <;> rw [h]

theorem SysStep.memFetch (y : Sys) (thumb : Bool) (addr : Word) : SysStep y (y.memFetch thumb addr).2 := by
  rw [Sys.memFetch_eq]
  exact SysStep.quiet id

/-- Every access costs at least one cycle (20_memory.md R122). -/
theorem accessCost_pos (waitcnt : Half) (kind : Access) (w : Width) (a : Word) : 1 ≤ accessCost waitcnt kind w a := by
  unfold accessCost
  simp only
  split <;> (try cases kind) <;> first | omega | (split <;> omega) | (simp only; split <;> omega)

/-! ## DMA (61_timers_dma.md R636..R639) -/

theorem SysStep.dmaUnit (c : Fin 4) (kind : Access) (w : Width) (fifo : Bool) (y z : Sys) (n : Nat)
    (h : y.dmaUnit c kind w fifo = .ok (z, n)) : SysStep y z := by
  unfold Sys.dmaUnit at h
  simp only at h
  split at h
  · rename_i y' hy
    cases h
    exact ((SysStep.memRead y w _).trans (SysStep.memWrite _ w _ _ y' hy)).trans (SysStep.setDma y' c _)
  · cases h

theorem SysStep.dmaUnits (c : Fin 4) (w : Width) (fifo : Bool) (n : Nat) :
    ∀ (kind : Access) (cost : Nat) (y z : Sys) (m : Nat), y.dmaUnits c w fifo n kind cost = .ok (z, m) → SysStep y z := by
  induction n with
  | zero => intro _ _ y z m h; cases h; exact SysStep.refl y
  | succ n ih =>
    intro kind cost y z m h
    simp only [Sys.dmaUnits] at h
    split at h
    · rename_i y' u hu
      exact (SysStep.dmaUnit c kind w fifo y y' u hu).trans (ih _ _ y' z m h)
    · cases h

theorem SysStep.later (y : Sys) (n : Nat) : SysStep y { y with now := y.now + n } :=
  ⟨⟨rfl, id, id, fun _ _ => rfl, Nat.le_add_right _ _, rfl, id, id, rfl, rfl⟩, rfl, rfl, rfl, rfl, rfl⟩

theorem SysStep.dmaComplete (y : Sys) (c : Fin 4) : SysStep y (y.dmaComplete c) := by
  unfold Sys.dmaComplete
  exact SysStep.ofIte _ (SysStep.setDma y _ _) (SysStep.setDma y _ _)

/-- A whole DMA run. -/
theorem SysStep.runDma (y : Sys) (c : Fin 4) : StepOk y (y.runDma c) := by
  intro z h
  unfold Sys.runDma at h
  simp only at h
  split at h
  · cases h
  · rename_i y' cost hu
    cases h
    have h1 := ((SysStep.sizeEeprom y c _ _).trans (SysStep.dmaUnits _ _ _ _ _ _ _ y' cost hu)).trans (SysStep.later y' (cost + 2))
    exact (SysStep.ofIte _ (h1.trans (SysStep.requestIrq _ _ (by omega))) h1).trans (SysStep.dmaComplete _ c)

theorem SysStep.runDmaIf (y : Sys) (timing : DmaTiming) (c : Fin 4) : StepOk y (y.runDmaIf timing c) := by
  unfold Sys.runDmaIf
  split
  · exact SysStep.runDma y c
  · exact .ok (SysStep.refl y)

theorem SysStep.dmaTurn (awaited : Bool) (c : Fin 4) (y : Sys) : StepOk y (y.dmaTurn awaited c) := by
  unfold Sys.dmaTurn
  split
  · exact SysStep.runDma y c
  · exact .ok (SysStep.refl y)

/-- A channel that did not await the trigger does not run in it, whatever it has become since (61_timers_dma.md R623). -/
@[simp] theorem Sys.dmaTurn_of_not_awaited (c : Fin 4) (y : Sys) : y.dmaTurn false c = .ok y := rfl

/-- A channel that is disarmed when its turn comes does not run (61_timers_dma.md R623). -/
theorem Sys.dmaTurn_of_disarmed {c : Fin 4} {y : Sys} (h : (y.dmaChannel c).armed = false) (awaited : Bool) :
    y.dmaTurn awaited c = .ok y := by
  simp [Sys.dmaTurn, h]

/-- A trigger that no channel awaits does nothing (61_timers_dma.md R623). -/
theorem Sys.dmaTrigger_idle {timing : DmaTiming} {y : Sys} (h : ∀ c, (y.dmaChannel c).awaits timing = false) :
    y.dmaTrigger timing = .ok y := by
  unfold Sys.dmaTrigger
  simp only [h]
  rfl

theorem StepOk.bind {x : Sys} {r : Except Fault Sys} {k : Sys → Except Fault Sys} (h : StepOk x r)
    (g : ∀ y, StepOk y (k y)) : StepOk x (r >>= k) := by
  cases r with
  | error f => exact .error _ _
  | ok y => exact .after (h y rfl) (g y)

/-- `DmaTrigger` (61_timers_dma.md R623). -/
theorem SysStep.dmaTrigger (y : Sys) (timing : DmaTiming) : StepOk y (y.dmaTrigger timing) :=
  .bind (SysStep.dmaTurn _ 0 y) fun y => .bind (SysStep.dmaTurn _ 1 y) fun y =>
    .bind (SysStep.dmaTurn _ 2 y) fun y => SysStep.dmaTurn _ 3 y

theorem SysStep.fifoRequest (y : Sys) (x : FifoName) : StepOk y (y.fifoRequest x) := by
  unfold Sys.fifoRequest
  split
  · exact SysStep.runDma y 1
  · split
    · exact SysStep.runDma y 2
    · exact .ok (SysStep.refl y)

theorem SysStep.dmaEvent (c : Fin 4) (fuel : Nat) (y : Sys) : StepOk y (y.dmaEvent c fuel) := by
  induction fuel generalizing y with
  | zero => exact .ok (SysStep.quiet id)
  | succ n ih =>
    simp only [Sys.dmaEvent]
    split
    · exact SysStep.runDmaIf y _ c
    · rename_i c' _
      split
      · rename_i y' hy
        exact .after ((SysStep.cancel y _ ⟨by simp, by simp⟩).trans (SysStep.runDmaIf _ _ c' y' hy)) (ih y')
      · exact .error _ _

/-! ## Timers (61_timers_dma.md R614, R615, R652) -/

theorem Fifo.pop_length (q : Fifo) (h : q.queue.length ≤ 32) : q.pop.queue.length ≤ 32 := by
  unfold Fifo.pop
  split
  · exact h
  · rename_i hq
    simp only [hq, List.length_cons] at h ⊢
    omega

theorem SysStep.fifoTick (y : Sys) (x : FifoName) : StepOk y (y.fifoTick x) := by
  have h := SysStep.setFifo y x _ (Fifo.pop_length (y.fifo x))
  unfold Sys.fifoTick
  simp only
  split
  · exact .after h (SysStep.fifoRequest _ x)
  · exact .ok h

theorem SysStep.tickFifos (y : Sys) (i : Fin 4) : StepOk y (y.tickFifos i) := by
  have h : ∀ (b : Bool) (x : FifoName) (y : Sys), StepOk y (if b then y.fifoTick x else .ok y) := by
    intro b x y
    split
    · exact SysStep.fifoTick y x
    · exact .ok (SysStep.refl y)
  unfold Sys.tickFifos
  split
  · exact .ok (SysStep.refl y)
  · simp only
    split
    · exact .bind (SysStep.fifoTick y .a) fun y => h _ .b y
    · exact h _ .b y

theorem SysStep.timerReload (y : Sys) (i : Fin 4) (t : Nat) : SysStep y (y.timerReload i t) := by
  have h1 : SysStep y (y.setTimer i { y.timer i with counter0 := (y.timer i).reload.zeroExtend 17, start := t }) :=
    SysStep.setTimer y _ _
  have h2 := SysStep.ofIte
    (Timer.freeCounting i { y.timer i with counter0 := (y.timer i).reload.zeroExtend 17, start := t } = true)
    (h1.trans (SysStep.schedule _ (Timer.overflowAt { y.timer i with counter0 := (y.timer i).reload.zeroExtend 17, start := t })
      (.timer i) ⟨by simp, by simp⟩)) h1
  unfold Sys.timerReload
  exact SysStep.ofIte _ (h2.trans (SysStep.requestIrq _ _ (by omega))) h2

/-- An overflow and the cascade it starts. -/
theorem SysStep.timerOverflow (t fuel : Nat) (i : Fin 4) (y : Sys) : StepOk y (y.timerOverflow t fuel i) := by
  induction fuel generalizing y i with
  | zero =>
    unfold Sys.timerOverflow
    split
    · exact .error _ _
    · rename_i y' hy
      exact .ok ((SysStep.timerReload y i t).trans (SysStep.tickFifos _ i y' hy))
  | succ n ih =>
    unfold Sys.timerOverflow
    split
    · exact .error _ _
    · rename_i y' hy
      have h := (SysStep.timerReload y i t).trans (SysStep.tickFifos _ i y' hy)
      simp only
      split
      · split
        · split
          · exact .after (h.trans (SysStep.setTimer y' _ _)) (ih _ _)
          · exact .ok (h.trans (SysStep.setTimer y' _ _))
        · exact .ok h
      · exact .ok h

/-! ## Charged accesses -/

/-- What a CPU access does: a charge, then a step outside the CPU. -/
def SysRun (y z : Sys) : Prop := ∃ n, SysStep (y.charge n) z

theorem SysStep.charged {y z : Sys} (n : Nat) (h : SysStep y z) : SysStep (y.charge n) (z.charge n) :=
  ⟨⟨h.params, h.memory, h.storage, h.readOnly, h.now, congrArg (· + n) h.cost, h.reserved, h.ordered, h.frameEnd, h.mid⟩,
    h.vcount, h.phase, h.status, h.lines, h.fb⟩

theorem SysRun.refl (y : Sys) : SysRun y y := ⟨0, SysStep.refl y⟩

theorem SysRun.charge (y : Sys) (n : Nat) : SysRun y (y.charge n) := ⟨n, SysStep.refl _⟩

theorem SysRun.trans {x y z : Sys} : SysRun x y → SysRun y z → SysRun x z
  | ⟨n, h⟩, ⟨m, g⟩ => ⟨n + m, by
      have h' := (h.charged m).trans g
      have e : (x.charge n).charge m = x.charge (n + m) := by simp [Sys.charge, Nat.add_assoc]
      rwa [e] at h'⟩

theorem SysRun.load (y : Sys) (kind : Access) (w : Width) (a : Word) : SysRun y (y.load kind w a).2 :=
  ⟨_, SysStep.memRead _ w a⟩

theorem SysRun.store {y z : Sys} {kind : Access} {w : Width} {a v : Word} (h : y.store kind w a v = .ok z) : SysRun y z :=
  ⟨_, SysStep.memWrite _ w a v z h⟩

theorem SysRun.fetch (y : Sys) (kind : Access) (thumb : Bool) (a : Word) : SysRun y (y.fetch kind thumb a).2 :=
  ⟨_, SysStep.memFetch _ thumb a⟩

end Sys2Proof.Machine
end

