-- ==== Sys2Proof/Laws/Events.lean ====
section
/-! SUPPORT. What the event handlers and the dispatch keep (spec/61_timers_dma.md R605, 62_ppu.md R673, R674): the line
events of the PPU too keep everything `SysKeep` names. -/

namespace Sys2Proof.Machine

open Sys2Proof

/-- The next system of an operation that may fault keeps what `SysKeep` names, if there is one. -/
def KeepOk (y : Sys) (r : Except Fault Sys) : Prop := ∀ z, r = .ok z → SysKeep y z

theorem StepOk.keep {y : Sys} {r : Except Fault Sys} (h : StepOk y r) : KeepOk y r := fun z e => (h z e).toSysKeep

theorem KeepOk.ok {y z : Sys} (h : SysKeep y z) : KeepOk y (.ok z) := fun _ e => by cases e; exact h

theorem KeepOk.error (y : Sys) (f : Fault) : KeepOk y (.error f) := fun _ e => by cases e

theorem KeepOk.after {x y : Sys} {r : Except Fault Sys} (h : SysKeep x y) (g : KeepOk y r) : KeepOk x r :=
  fun z e => h.trans (g z e)

theorem SysKeep.ofIte {y z w : Sys} (c : Prop) [Decidable c] (hz : SysKeep y z) (hw : SysKeep y w) :
    SysKeep y (if c then z else w) := by
  split
  · exact hz
  · exact hw

/-- A change of the PPU's registers only. -/
theorem SysKeep.ofPpu (y : Sys) (p : Ppu) : SysKeep y { y with ppu := p } :=
  ⟨rfl, id, id, fun _ _ => rfl, Nat.le_refl _, rfl, id, id, rfl, rfl⟩

theorem SysKeep.renderLine (y : Sys) (line : Nat) (h : line < 160) : SysKeep y (y.renderLine line h) :=
  ⟨rfl, id, id, fun _ _ => rfl, Nat.le_refl _, rfl, id, id, rfl, rfl⟩

theorem SysKeep.renderVisible (y : Sys) : SysKeep y y.renderVisible := by
  unfold Sys.renderVisible
  split
  · exact SysKeep.renderLine y _ _
  · exact SysKeep.refl y

theorem SysKeep.enterHblank (y : Sys) : SysKeep y y.enterHblank := by
  have h := SysKeep.ofPpu y { y.ppu.setStatus 0x0002#16 true with phase := .hblank }
  unfold Sys.enterHblank
  exact SysKeep.ofIte _ (h.trans (SysStep.requestIrq _ 1 (by decide)).toSysKeep) h

theorem SysStep.hblankDma (y : Sys) : StepOk y y.hblankDma := by
  unfold Sys.hblankDma
  split
  · exact SysStep.dmaTrigger y .hblank
  · exact .ok (SysStep.refl y)

/-- `HDrawEnd` (62_ppu.md R673). -/
theorem SysKeep.hdrawEnd (y : Sys) (t : Nat) : KeepOk y (y.hdrawEnd t) := by
  unfold Sys.hdrawEnd
  split
  · rename_i z hz
    exact .ok ((((SysKeep.renderVisible y).trans (SysKeep.enterHblank _)).trans ((SysStep.hblankDma _).keep z hz)).trans
      (SysKeep.schedule z _ _))
  · exact .error _ _

theorem SysKeep.enterVblank (y : Sys) : SysKeep y y.enterVblank := by
  have h := SysKeep.ofPpu y (y.ppu.setStatus 0x0001#16 true)
  unfold Sys.enterVblank
  exact SysKeep.ofIte _ (h.trans (SysStep.requestIrq _ 0 (by decide)).toSysKeep) h

/-- V-Blank start (62_ppu.md R674). -/
theorem SysKeep.vblankStart (y : Sys) : KeepOk y y.vblankStart := by
  unfold Sys.vblankStart
  split
  · rename_i z hz
    exact .ok (((SysKeep.enterVblank y).trans ((SysStep.dmaTrigger _ .vblank).keep z hz)).trans (SysKeep.ofPpu z _))
  · exact .error _ _

theorem SysKeep.beginLine (y : Sys) : KeepOk y y.beginLine := by
  unfold Sys.beginLine
  split
  · exact SysKeep.vblankStart y
  · exact .ok (SysKeep.refl y)

theorem SysKeep.endVblank (y : Sys) : SysKeep y y.endVblank := by
  unfold Sys.endVblank
  exact SysKeep.ofIte _ (SysKeep.ofPpu y _) (SysKeep.refl y)

theorem SysKeep.vcountMatch (y : Sys) : SysKeep y y.vcountMatch := by
  have h := SysKeep.ofPpu y (y.ppu.setStatus 0x0004#16 (bitsNat y.ppu.dispstat 8 8 == y.ppu.vcount.val))
  unfold Sys.vcountMatch
  exact SysKeep.ofIte _ (h.trans (SysStep.requestIrq _ 2 (by decide)).toSysKeep) h

/-- `LineEnd` (62_ppu.md R674). -/
theorem SysKeep.lineEnd (y : Sys) (t : Nat) : KeepOk y (y.lineEnd t) := by
  unfold Sys.lineEnd
  split
  · exact .error _ _
  · rename_i z hz
    exact .ok ((((SysKeep.ofPpu y _).trans (SysKeep.beginLine _ z hz)).trans
      ((SysKeep.endVblank z).trans (SysKeep.vcountMatch _))).trans (SysKeep.schedule _ _ _))

/-- Every handler (61_timers_dma.md R605). -/
theorem SysKeep.handleEvent (y : Sys) (e : Event) : KeepOk y (y.handleEvent e) := by
  unfold Sys.handleEvent
  split
  · exact SysKeep.hdrawEnd y _
  · exact SysKeep.lineEnd y _
  · exact (SysStep.timerOverflow _ _ _ y).keep
  · exact (SysStep.dmaEvent _ _ y).keep
  · exact (SysStep.fifoRequest y _).keep
  · exact .ok (SysKeep.refl y)
  · exact .ok (SysKeep.refl y)

/-- Taking the least entry out keeps the queue in order. -/
theorem SysKeep.pop (y : Sys) (e : Event) (rest : List Event) (h : y.events = e :: rest) :
    SysKeep y { y with events := rest } := by
  refine ⟨rfl, id, id, fun _ _ => rfl, Nat.le_refl _, rfl, id, fun ⟨h1, h2, h3⟩ => ?_, rfl, rfl⟩
  rw [h] at h1 h2 h3
  exact ⟨(List.pairwise_cons.1 h1).2, fun x hx => h2 x (by simp [hx]), (List.pairwise_cons.1 h3).2⟩

/-- What a turn of the dispatch is: the pending DMA handler, or the handler of the least entry, which is due
(61_timers_dma.md R605, R639). -/
theorem Sys.dispatchOne_cases {y : Sys} {r : Except Fault Sys} (h : y.dispatchOne = some r) :
    (∃ c, y.dmaPending = some c ∧ r = ({ y with dmaPending := none } : Sys).dmaEvent c Config.dispatchBudget) ∨
    (∃ e rest, y.events = e :: rest ∧ e.cycle ≤ y.now ∧ r = ({ y with events := rest } : Sys).handleEvent e) := by
  unfold Sys.dispatchOne at h
  split at h
  · rename_i c hc
    exact .inl ⟨c, hc, (Option.some.inj h).symm⟩
  · split at h
    · cases h
    · rename_i e rest he
      split at h
      · exact .inr ⟨e, rest, he, ‹_›, (Option.some.inj h).symm⟩
      · cases h

/-- A turn of the dispatch (61_timers_dma.md R605). -/
theorem SysKeep.dispatchOne {y : Sys} {r : Except Fault Sys} (h : y.dispatchOne = some r) : KeepOk y r := by
  rcases Sys.dispatchOne_cases h with ⟨c, -, rfl⟩ | ⟨e, rest, he, -, rfl⟩
  · exact .after (SysStep.quiet (y := y) (z := { y with dmaPending := none }) id).toSysKeep (SysStep.dmaEvent _ _ _).keep
  · exact .after (SysKeep.pop y e rest he) (SysKeep.handleEvent _ e)

/-- `DispatchDue` (61_timers_dma.md R605). -/
theorem SysKeep.dispatchDue (fuel : Nat) (y : Sys) : KeepOk y (y.dispatchDue fuel) := by
  induction fuel generalizing y with
  | zero => exact .ok (SysKeep.refl y)
  | succ n ih =>
    simp only [Sys.dispatchDue]
    split
    · exact .ok (SysKeep.refl y)
    · rename_i z hz
      exact .after (SysKeep.dispatchOne hz z rfl) (ih z)
    · exact .error _ _

end Sys2Proof.Machine
end

