-- ==== Sys2Proof/Laws/State.lean ====
section
/-! SUPPORT. What each update of the state leaves: one lemma per field and update, so that no proof unfolds a record
update. -/

namespace Sys2Proof.Machine

open Sys2Proof

/-! ## Updates of the CPU -/

@[simp] theorem State.setReg_sys (r : RegNum) (v : Word) (s : State) : (s.setReg r v).sys = s.sys := rfl

@[simp] theorem State.setRegIn_sys (b : Bank) (r : RegNum) (v : Word) (s : State) : (s.setRegIn b r v).sys = s.sys := rfl

@[simp] theorem State.setCpsr_sys (p : Psr) (s : State) : (s.setCpsr p).sys = s.sys := rfl
@[simp] theorem State.setCpsr_cpu_cpsr (p : Psr) (s : State) : (s.setCpsr p).cpu.cpsr = p := rfl
@[simp] theorem State.setCpsr_cpu_regs (p : Psr) (s : State) : (s.setCpsr p).cpu.regs = s.cpu.regs := rfl
@[simp] theorem State.setCpsr_cpu_spsr (p : Psr) (s : State) : (s.setCpsr p).cpu.spsr = s.cpu.spsr := rfl
@[simp] theorem State.setCpsr_cpu_pc (p : Psr) (s : State) : (s.setCpsr p).cpu.pc = s.cpu.pc := rfl
@[simp] theorem State.setCpsr_cpu_pipe0 (p : Psr) (s : State) : (s.setCpsr p).cpu.pipe0 = s.cpu.pipe0 := rfl
@[simp] theorem State.setCpsr_cpu_pipe1 (p : Psr) (s : State) : (s.setCpsr p).cpu.pipe1 = s.cpu.pipe1 := rfl

@[simp] theorem State.withSys_sys (y : Sys) (s : State) : (s.withSys y).sys = y := rfl
@[simp] theorem State.withSys_cpu (y : Sys) (s : State) : (s.withSys y).cpu = s.cpu := rfl

@[simp] theorem State.internal_sys (n : Nat) (s : State) : (s.internal n).sys = s.sys.charge n := rfl
@[simp] theorem State.internal_cpu (n : Nat) (s : State) : (s.internal n).cpu = s.cpu := rfl

@[simp] theorem State.advance_sys (s : State) : (s.advance).sys = s.sys := rfl
@[simp] theorem State.advance_cpu_pc (s : State) : (s.advance).cpu.pc = s.cpu.pc + widthOf s.cpu.cpsr.t := rfl
@[simp] theorem State.advance_cpu_regs (s : State) : (s.advance).cpu.regs = s.cpu.regs := rfl
@[simp] theorem State.advance_cpu_spsr (s : State) : (s.advance).cpu.spsr = s.cpu.spsr := rfl
@[simp] theorem State.advance_cpu_cpsr (s : State) : (s.advance).cpu.cpsr = s.cpu.cpsr := rfl
@[simp] theorem State.advance_cpu_pipe0 (s : State) : (s.advance).cpu.pipe0 = s.cpu.pipe0 := rfl
@[simp] theorem State.advance_cpu_pipe1 (s : State) : (s.advance).cpu.pipe1 = s.cpu.pipe1 := rfl

@[simp] theorem Cpu.setBankReg_spsr (b : Bank) (r : RegNum) (v : Word) (c : Cpu) : (c.setBankReg b r v).spsr = c.spsr := by unfold Cpu.setBankReg; split <;> rfl
@[simp] theorem Cpu.setBankReg_cpsr (b : Bank) (r : RegNum) (v : Word) (c : Cpu) : (c.setBankReg b r v).cpsr = c.cpsr := by unfold Cpu.setBankReg; split <;> rfl
@[simp] theorem Cpu.setBankReg_pc (b : Bank) (r : RegNum) (v : Word) (c : Cpu) : (c.setBankReg b r v).pc = c.pc := by unfold Cpu.setBankReg; split <;> rfl
@[simp] theorem Cpu.setBankReg_pipe0 (b : Bank) (r : RegNum) (v : Word) (c : Cpu) : (c.setBankReg b r v).pipe0 = c.pipe0 := by unfold Cpu.setBankReg; split <;> rfl
@[simp] theorem Cpu.setBankReg_pipe1 (b : Bank) (r : RegNum) (v : Word) (c : Cpu) : (c.setBankReg b r v).pipe1 = c.pipe1 := by unfold Cpu.setBankReg; split <;> rfl

@[simp] theorem State.setReg_cpu_spsr (r : RegNum) (v : Word) (s : State) : (s.setReg r v).cpu.spsr = s.cpu.spsr :=
  Cpu.setBankReg_spsr _ r v s.cpu
@[simp] theorem State.setRegIn_cpu_spsr (b : Bank) (r : RegNum) (v : Word) (s : State) : (s.setRegIn b r v).cpu.spsr = s.cpu.spsr :=
  Cpu.setBankReg_spsr b r v s.cpu
@[simp] theorem State.setReg_cpu_cpsr (r : RegNum) (v : Word) (s : State) : (s.setReg r v).cpu.cpsr = s.cpu.cpsr :=
  Cpu.setBankReg_cpsr _ r v s.cpu
@[simp] theorem State.setRegIn_cpu_cpsr (b : Bank) (r : RegNum) (v : Word) (s : State) : (s.setRegIn b r v).cpu.cpsr = s.cpu.cpsr :=
  Cpu.setBankReg_cpsr b r v s.cpu
@[simp] theorem State.setReg_cpu_pc (r : RegNum) (v : Word) (s : State) : (s.setReg r v).cpu.pc = s.cpu.pc :=
  Cpu.setBankReg_pc _ r v s.cpu
@[simp] theorem State.setRegIn_cpu_pc (b : Bank) (r : RegNum) (v : Word) (s : State) : (s.setRegIn b r v).cpu.pc = s.cpu.pc :=
  Cpu.setBankReg_pc b r v s.cpu
@[simp] theorem State.setReg_cpu_pipe0 (r : RegNum) (v : Word) (s : State) : (s.setReg r v).cpu.pipe0 = s.cpu.pipe0 :=
  Cpu.setBankReg_pipe0 _ r v s.cpu
@[simp] theorem State.setRegIn_cpu_pipe0 (b : Bank) (r : RegNum) (v : Word) (s : State) : (s.setRegIn b r v).cpu.pipe0 = s.cpu.pipe0 :=
  Cpu.setBankReg_pipe0 b r v s.cpu
@[simp] theorem State.setReg_cpu_pipe1 (r : RegNum) (v : Word) (s : State) : (s.setReg r v).cpu.pipe1 = s.cpu.pipe1 :=
  Cpu.setBankReg_pipe1 _ r v s.cpu
@[simp] theorem State.setRegIn_cpu_pipe1 (b : Bank) (r : RegNum) (v : Word) (s : State) : (s.setRegIn b r v).cpu.pipe1 = s.cpu.pipe1 :=
  Cpu.setBankReg_pipe1 b r v s.cpu

@[simp] theorem Cpu.setCurrentSpsr_regs (p : Psr) (c : Cpu) : (c.setCurrentSpsr p).regs = c.regs := by
  unfold Cpu.setCurrentSpsr; split <;> rfl
@[simp] theorem Cpu.setCurrentSpsr_cpsr (p : Psr) (c : Cpu) : (c.setCurrentSpsr p).cpsr = c.cpsr := by
  unfold Cpu.setCurrentSpsr; split <;> rfl
@[simp] theorem Cpu.setCurrentSpsr_pc (p : Psr) (c : Cpu) : (c.setCurrentSpsr p).pc = c.pc := by
  unfold Cpu.setCurrentSpsr; split <;> rfl
@[simp] theorem Cpu.setCurrentSpsr_pipe0 (p : Psr) (c : Cpu) : (c.setCurrentSpsr p).pipe0 = c.pipe0 := by
  unfold Cpu.setCurrentSpsr; split <;> rfl
@[simp] theorem Cpu.setCurrentSpsr_pipe1 (p : Psr) (c : Cpu) : (c.setCurrentSpsr p).pipe1 = c.pipe1 := by
  unfold Cpu.setCurrentSpsr; split <;> rfl

/-! ## A base written back -/

@[simp] theorem State.writeBack_sys (wb : Bool) (rn : RegNum) (v : Word) (s : State) : (s.writeBack wb rn v).sys = s.sys := by
  unfold State.writeBack; split <;> rfl
@[simp] theorem State.writeBack_cpu_spsr (wb : Bool) (rn : RegNum) (v : Word) (s : State) :
    (s.writeBack wb rn v).cpu.spsr = s.cpu.spsr := by unfold State.writeBack; split <;> simp
@[simp] theorem State.writeBack_cpu_cpsr (wb : Bool) (rn : RegNum) (v : Word) (s : State) :
    (s.writeBack wb rn v).cpu.cpsr = s.cpu.cpsr := by unfold State.writeBack; split <;> simp
@[simp] theorem State.writeBack_cpu_pc (wb : Bool) (rn : RegNum) (v : Word) (s : State) :
    (s.writeBack wb rn v).cpu.pc = s.cpu.pc := by unfold State.writeBack; split <;> simp
@[simp] theorem State.writeBack_cpu_pipe0 (wb : Bool) (rn : RegNum) (v : Word) (s : State) :
    (s.writeBack wb rn v).cpu.pipe0 = s.cpu.pipe0 := by unfold State.writeBack; split <;> simp
@[simp] theorem State.writeBack_cpu_pipe1 (wb : Bool) (rn : RegNum) (v : Word) (s : State) :
    (s.writeBack wb rn v).cpu.pipe1 = s.cpu.pipe1 := by unfold State.writeBack; split <;> simp

/-! ## Updates of the system -/

@[simp] theorem Sys.charge_params (n : Nat) (y : Sys) : (y.charge n).params = y.params := rfl
@[simp] theorem Sys.charge_mem (n : Nat) (y : Sys) : (y.charge n).mem = y.mem := rfl
@[simp] theorem Sys.charge_lastFetch (n : Nat) (y : Sys) : (y.charge n).lastFetch = y.lastFetch := rfl
@[simp] theorem Sys.charge_lastFetchAddr (n : Nat) (y : Sys) : (y.charge n).lastFetchAddr = y.lastFetchAddr := rfl
@[simp] theorem Sys.charge_biosLatch (n : Nat) (y : Sys) : (y.charge n).biosLatch = y.biosLatch := rfl
@[simp] theorem Sys.charge_ie (n : Nat) (y : Sys) : (y.charge n).ie = y.ie := rfl
@[simp] theorem Sys.charge_iflag (n : Nat) (y : Sys) : (y.charge n).iflag = y.iflag := rfl
@[simp] theorem Sys.charge_ime (n : Nat) (y : Sys) : (y.charge n).ime = y.ime := rfl
@[simp] theorem Sys.charge_halted (n : Nat) (y : Sys) : (y.charge n).halted = y.halted := rfl
@[simp] theorem Sys.charge_stopped (n : Nat) (y : Sys) : (y.charge n).stopped = y.stopped := rfl
@[simp] theorem Sys.charge_waitcnt (n : Nat) (y : Sys) : (y.charge n).waitcnt = y.waitcnt := rfl
@[simp] theorem Sys.charge_postflg (n : Nat) (y : Sys) : (y.charge n).postflg = y.postflg := rfl
@[simp] theorem Sys.charge_storage (n : Nat) (y : Sys) : (y.charge n).storage = y.storage := rfl
@[simp] theorem Sys.charge_soundcntH (n : Nat) (y : Sys) : (y.charge n).soundcntH = y.soundcntH := rfl
@[simp] theorem Sys.charge_timers (n : Nat) (y : Sys) : (y.charge n).timers = y.timers := rfl
@[simp] theorem Sys.charge_dma (n : Nat) (y : Sys) : (y.charge n).dma = y.dma := rfl
@[simp] theorem Sys.charge_fifoA (n : Nat) (y : Sys) : (y.charge n).fifoA = y.fifoA := rfl
@[simp] theorem Sys.charge_fifoB (n : Nat) (y : Sys) : (y.charge n).fifoB = y.fifoB := rfl
@[simp] theorem Sys.charge_keyinput (n : Nat) (y : Sys) : (y.charge n).keyinput = y.keyinput := rfl
@[simp] theorem Sys.charge_keycnt (n : Nat) (y : Sys) : (y.charge n).keycnt = y.keycnt := rfl
@[simp] theorem Sys.charge_ppu (n : Nat) (y : Sys) : (y.charge n).ppu = y.ppu := rfl
@[simp] theorem Sys.charge_fb (n : Nat) (y : Sys) : (y.charge n).fb = y.fb := rfl
@[simp] theorem Sys.charge_flash (n : Nat) (y : Sys) : (y.charge n).flash = y.flash := rfl
@[simp] theorem Sys.charge_eeprom (n : Nat) (y : Sys) : (y.charge n).eeprom = y.eeprom := rfl
@[simp] theorem Sys.charge_device (n : Nat) (y : Sys) : (y.charge n).device = y.device := rfl
@[simp] theorem Sys.charge_now (n : Nat) (y : Sys) : (y.charge n).now = y.now := rfl
@[simp] theorem Sys.charge_events (n : Nat) (y : Sys) : (y.charge n).events = y.events := rfl
@[simp] theorem Sys.charge_nextSeq (n : Nat) (y : Sys) : (y.charge n).nextSeq = y.nextSeq := rfl
@[simp] theorem Sys.charge_frameEndPrev (n : Nat) (y : Sys) : (y.charge n).frameEndPrev = y.frameEndPrev := rfl
@[simp] theorem Sys.charge_cost (n : Nat) (y : Sys) : (y.charge n).cost = y.cost + n := rfl
@[simp] theorem Sys.charge_midDispatch (n : Nat) (y : Sys) : (y.charge n).midDispatch = y.midDispatch := rfl
@[simp] theorem Sys.charge_dmaPending (n : Nat) (y : Sys) : (y.charge n).dmaPending = y.dmaPending := rfl

@[simp] theorem Sys.withMem_params (m : List Host.Cell) (y : Sys) : (y.withMem m).params = y.params := rfl
@[simp] theorem Sys.withMem_mem (m : List Host.Cell) (y : Sys) : (y.withMem m).mem = m := rfl
@[simp] theorem Sys.withMem_lastFetch (m : List Host.Cell) (y : Sys) : (y.withMem m).lastFetch = y.lastFetch := rfl
@[simp] theorem Sys.withMem_lastFetchAddr (m : List Host.Cell) (y : Sys) : (y.withMem m).lastFetchAddr = y.lastFetchAddr := rfl
@[simp] theorem Sys.withMem_biosLatch (m : List Host.Cell) (y : Sys) : (y.withMem m).biosLatch = y.biosLatch := rfl
@[simp] theorem Sys.withMem_ie (m : List Host.Cell) (y : Sys) : (y.withMem m).ie = y.ie := rfl
@[simp] theorem Sys.withMem_iflag (m : List Host.Cell) (y : Sys) : (y.withMem m).iflag = y.iflag := rfl
@[simp] theorem Sys.withMem_ime (m : List Host.Cell) (y : Sys) : (y.withMem m).ime = y.ime := rfl
@[simp] theorem Sys.withMem_halted (m : List Host.Cell) (y : Sys) : (y.withMem m).halted = y.halted := rfl
@[simp] theorem Sys.withMem_stopped (m : List Host.Cell) (y : Sys) : (y.withMem m).stopped = y.stopped := rfl
@[simp] theorem Sys.withMem_waitcnt (m : List Host.Cell) (y : Sys) : (y.withMem m).waitcnt = y.waitcnt := rfl
@[simp] theorem Sys.withMem_postflg (m : List Host.Cell) (y : Sys) : (y.withMem m).postflg = y.postflg := rfl
@[simp] theorem Sys.withMem_storage (m : List Host.Cell) (y : Sys) : (y.withMem m).storage = y.storage := rfl
@[simp] theorem Sys.withMem_soundcntH (m : List Host.Cell) (y : Sys) : (y.withMem m).soundcntH = y.soundcntH := rfl
@[simp] theorem Sys.withMem_timers (m : List Host.Cell) (y : Sys) : (y.withMem m).timers = y.timers := rfl
@[simp] theorem Sys.withMem_dma (m : List Host.Cell) (y : Sys) : (y.withMem m).dma = y.dma := rfl
@[simp] theorem Sys.withMem_fifoA (m : List Host.Cell) (y : Sys) : (y.withMem m).fifoA = y.fifoA := rfl
@[simp] theorem Sys.withMem_fifoB (m : List Host.Cell) (y : Sys) : (y.withMem m).fifoB = y.fifoB := rfl
@[simp] theorem Sys.withMem_keyinput (m : List Host.Cell) (y : Sys) : (y.withMem m).keyinput = y.keyinput := rfl
@[simp] theorem Sys.withMem_keycnt (m : List Host.Cell) (y : Sys) : (y.withMem m).keycnt = y.keycnt := rfl
@[simp] theorem Sys.withMem_ppu (m : List Host.Cell) (y : Sys) : (y.withMem m).ppu = y.ppu := rfl
@[simp] theorem Sys.withMem_fb (m : List Host.Cell) (y : Sys) : (y.withMem m).fb = y.fb := rfl
@[simp] theorem Sys.withMem_flash (m : List Host.Cell) (y : Sys) : (y.withMem m).flash = y.flash := rfl
@[simp] theorem Sys.withMem_eeprom (m : List Host.Cell) (y : Sys) : (y.withMem m).eeprom = y.eeprom := rfl
@[simp] theorem Sys.withMem_device (m : List Host.Cell) (y : Sys) : (y.withMem m).device = y.device := rfl
@[simp] theorem Sys.withMem_now (m : List Host.Cell) (y : Sys) : (y.withMem m).now = y.now := rfl
@[simp] theorem Sys.withMem_events (m : List Host.Cell) (y : Sys) : (y.withMem m).events = y.events := rfl
@[simp] theorem Sys.withMem_nextSeq (m : List Host.Cell) (y : Sys) : (y.withMem m).nextSeq = y.nextSeq := rfl
@[simp] theorem Sys.withMem_frameEndPrev (m : List Host.Cell) (y : Sys) : (y.withMem m).frameEndPrev = y.frameEndPrev := rfl
@[simp] theorem Sys.withMem_cost (m : List Host.Cell) (y : Sys) : (y.withMem m).cost = y.cost := rfl
@[simp] theorem Sys.withMem_midDispatch (m : List Host.Cell) (y : Sys) : (y.withMem m).midDispatch = y.midDispatch := rfl
@[simp] theorem Sys.withMem_dmaPending (m : List Host.Cell) (y : Sys) : (y.withMem m).dmaPending = y.dmaPending := rfl

@[simp] theorem Sys.schedule_params (c : Nat) (k : EventKind) (y : Sys) : (y.schedule c k).params = y.params := rfl
@[simp] theorem Sys.schedule_mem (c : Nat) (k : EventKind) (y : Sys) : (y.schedule c k).mem = y.mem := rfl
@[simp] theorem Sys.schedule_lastFetch (c : Nat) (k : EventKind) (y : Sys) : (y.schedule c k).lastFetch = y.lastFetch := rfl
@[simp] theorem Sys.schedule_lastFetchAddr (c : Nat) (k : EventKind) (y : Sys) : (y.schedule c k).lastFetchAddr = y.lastFetchAddr := rfl
@[simp] theorem Sys.schedule_biosLatch (c : Nat) (k : EventKind) (y : Sys) : (y.schedule c k).biosLatch = y.biosLatch := rfl
@[simp] theorem Sys.schedule_ie (c : Nat) (k : EventKind) (y : Sys) : (y.schedule c k).ie = y.ie := rfl
@[simp] theorem Sys.schedule_iflag (c : Nat) (k : EventKind) (y : Sys) : (y.schedule c k).iflag = y.iflag := rfl
@[simp] theorem Sys.schedule_ime (c : Nat) (k : EventKind) (y : Sys) : (y.schedule c k).ime = y.ime := rfl
@[simp] theorem Sys.schedule_halted (c : Nat) (k : EventKind) (y : Sys) : (y.schedule c k).halted = y.halted := rfl
@[simp] theorem Sys.schedule_stopped (c : Nat) (k : EventKind) (y : Sys) : (y.schedule c k).stopped = y.stopped := rfl
@[simp] theorem Sys.schedule_waitcnt (c : Nat) (k : EventKind) (y : Sys) : (y.schedule c k).waitcnt = y.waitcnt := rfl
@[simp] theorem Sys.schedule_postflg (c : Nat) (k : EventKind) (y : Sys) : (y.schedule c k).postflg = y.postflg := rfl
@[simp] theorem Sys.schedule_storage (c : Nat) (k : EventKind) (y : Sys) : (y.schedule c k).storage = y.storage := rfl
@[simp] theorem Sys.schedule_soundcntH (c : Nat) (k : EventKind) (y : Sys) : (y.schedule c k).soundcntH = y.soundcntH := rfl
@[simp] theorem Sys.schedule_timers (c : Nat) (k : EventKind) (y : Sys) : (y.schedule c k).timers = y.timers := rfl
@[simp] theorem Sys.schedule_dma (c : Nat) (k : EventKind) (y : Sys) : (y.schedule c k).dma = y.dma := rfl
@[simp] theorem Sys.schedule_fifoA (c : Nat) (k : EventKind) (y : Sys) : (y.schedule c k).fifoA = y.fifoA := rfl
@[simp] theorem Sys.schedule_fifoB (c : Nat) (k : EventKind) (y : Sys) : (y.schedule c k).fifoB = y.fifoB := rfl
@[simp] theorem Sys.schedule_keyinput (c : Nat) (k : EventKind) (y : Sys) : (y.schedule c k).keyinput = y.keyinput := rfl
@[simp] theorem Sys.schedule_keycnt (c : Nat) (k : EventKind) (y : Sys) : (y.schedule c k).keycnt = y.keycnt := rfl
@[simp] theorem Sys.schedule_ppu (c : Nat) (k : EventKind) (y : Sys) : (y.schedule c k).ppu = y.ppu := rfl
@[simp] theorem Sys.schedule_fb (c : Nat) (k : EventKind) (y : Sys) : (y.schedule c k).fb = y.fb := rfl
@[simp] theorem Sys.schedule_flash (c : Nat) (k : EventKind) (y : Sys) : (y.schedule c k).flash = y.flash := rfl
@[simp] theorem Sys.schedule_eeprom (c : Nat) (k : EventKind) (y : Sys) : (y.schedule c k).eeprom = y.eeprom := rfl
@[simp] theorem Sys.schedule_device (c : Nat) (k : EventKind) (y : Sys) : (y.schedule c k).device = y.device := rfl
@[simp] theorem Sys.schedule_now (c : Nat) (k : EventKind) (y : Sys) : (y.schedule c k).now = y.now := rfl
@[simp] theorem Sys.schedule_events (c : Nat) (k : EventKind) (y : Sys) : (y.schedule c k).events = Events.insert { cycle := c, kind := k, seq := y.nextSeq } (Events.remove k y.events) := rfl
@[simp] theorem Sys.schedule_nextSeq (c : Nat) (k : EventKind) (y : Sys) : (y.schedule c k).nextSeq = y.nextSeq + 1 := rfl
@[simp] theorem Sys.schedule_frameEndPrev (c : Nat) (k : EventKind) (y : Sys) : (y.schedule c k).frameEndPrev = y.frameEndPrev := rfl
@[simp] theorem Sys.schedule_cost (c : Nat) (k : EventKind) (y : Sys) : (y.schedule c k).cost = y.cost := rfl
@[simp] theorem Sys.schedule_midDispatch (c : Nat) (k : EventKind) (y : Sys) : (y.schedule c k).midDispatch = y.midDispatch := rfl
@[simp] theorem Sys.schedule_dmaPending (c : Nat) (k : EventKind) (y : Sys) : (y.schedule c k).dmaPending = y.dmaPending := rfl

@[simp] theorem Sys.cancel_params (k : EventKind) (y : Sys) : (y.cancel k).params = y.params := rfl
@[simp] theorem Sys.cancel_mem (k : EventKind) (y : Sys) : (y.cancel k).mem = y.mem := rfl
@[simp] theorem Sys.cancel_lastFetch (k : EventKind) (y : Sys) : (y.cancel k).lastFetch = y.lastFetch := rfl
@[simp] theorem Sys.cancel_lastFetchAddr (k : EventKind) (y : Sys) : (y.cancel k).lastFetchAddr = y.lastFetchAddr := rfl
@[simp] theorem Sys.cancel_biosLatch (k : EventKind) (y : Sys) : (y.cancel k).biosLatch = y.biosLatch := rfl
@[simp] theorem Sys.cancel_ie (k : EventKind) (y : Sys) : (y.cancel k).ie = y.ie := rfl
@[simp] theorem Sys.cancel_iflag (k : EventKind) (y : Sys) : (y.cancel k).iflag = y.iflag := rfl
@[simp] theorem Sys.cancel_ime (k : EventKind) (y : Sys) : (y.cancel k).ime = y.ime := rfl
@[simp] theorem Sys.cancel_halted (k : EventKind) (y : Sys) : (y.cancel k).halted = y.halted := rfl
@[simp] theorem Sys.cancel_stopped (k : EventKind) (y : Sys) : (y.cancel k).stopped = y.stopped := rfl
@[simp] theorem Sys.cancel_waitcnt (k : EventKind) (y : Sys) : (y.cancel k).waitcnt = y.waitcnt := rfl
@[simp] theorem Sys.cancel_postflg (k : EventKind) (y : Sys) : (y.cancel k).postflg = y.postflg := rfl
@[simp] theorem Sys.cancel_storage (k : EventKind) (y : Sys) : (y.cancel k).storage = y.storage := rfl
@[simp] theorem Sys.cancel_soundcntH (k : EventKind) (y : Sys) : (y.cancel k).soundcntH = y.soundcntH := rfl
@[simp] theorem Sys.cancel_timers (k : EventKind) (y : Sys) : (y.cancel k).timers = y.timers := rfl
@[simp] theorem Sys.cancel_dma (k : EventKind) (y : Sys) : (y.cancel k).dma = y.dma := rfl
@[simp] theorem Sys.cancel_fifoA (k : EventKind) (y : Sys) : (y.cancel k).fifoA = y.fifoA := rfl
@[simp] theorem Sys.cancel_fifoB (k : EventKind) (y : Sys) : (y.cancel k).fifoB = y.fifoB := rfl
@[simp] theorem Sys.cancel_keyinput (k : EventKind) (y : Sys) : (y.cancel k).keyinput = y.keyinput := rfl
@[simp] theorem Sys.cancel_keycnt (k : EventKind) (y : Sys) : (y.cancel k).keycnt = y.keycnt := rfl
@[simp] theorem Sys.cancel_ppu (k : EventKind) (y : Sys) : (y.cancel k).ppu = y.ppu := rfl
@[simp] theorem Sys.cancel_fb (k : EventKind) (y : Sys) : (y.cancel k).fb = y.fb := rfl
@[simp] theorem Sys.cancel_flash (k : EventKind) (y : Sys) : (y.cancel k).flash = y.flash := rfl
@[simp] theorem Sys.cancel_eeprom (k : EventKind) (y : Sys) : (y.cancel k).eeprom = y.eeprom := rfl
@[simp] theorem Sys.cancel_device (k : EventKind) (y : Sys) : (y.cancel k).device = y.device := rfl
@[simp] theorem Sys.cancel_now (k : EventKind) (y : Sys) : (y.cancel k).now = y.now := rfl
@[simp] theorem Sys.cancel_events (k : EventKind) (y : Sys) : (y.cancel k).events = Events.remove k y.events := rfl
@[simp] theorem Sys.cancel_nextSeq (k : EventKind) (y : Sys) : (y.cancel k).nextSeq = y.nextSeq := rfl
@[simp] theorem Sys.cancel_frameEndPrev (k : EventKind) (y : Sys) : (y.cancel k).frameEndPrev = y.frameEndPrev := rfl
@[simp] theorem Sys.cancel_cost (k : EventKind) (y : Sys) : (y.cancel k).cost = y.cost := rfl
@[simp] theorem Sys.cancel_midDispatch (k : EventKind) (y : Sys) : (y.cancel k).midDispatch = y.midDispatch := rfl
@[simp] theorem Sys.cancel_dmaPending (k : EventKind) (y : Sys) : (y.cancel k).dmaPending = y.dmaPending := rfl

@[simp] theorem Sys.requestIrq_params (b : Nat) (y : Sys) : (y.requestIrq b).params = y.params := rfl
@[simp] theorem Sys.requestIrq_mem (b : Nat) (y : Sys) : (y.requestIrq b).mem = y.mem := rfl
@[simp] theorem Sys.requestIrq_lastFetch (b : Nat) (y : Sys) : (y.requestIrq b).lastFetch = y.lastFetch := rfl
@[simp] theorem Sys.requestIrq_lastFetchAddr (b : Nat) (y : Sys) : (y.requestIrq b).lastFetchAddr = y.lastFetchAddr := rfl
@[simp] theorem Sys.requestIrq_biosLatch (b : Nat) (y : Sys) : (y.requestIrq b).biosLatch = y.biosLatch := rfl
@[simp] theorem Sys.requestIrq_ie (b : Nat) (y : Sys) : (y.requestIrq b).ie = y.ie := rfl
@[simp] theorem Sys.requestIrq_iflag (b : Nat) (y : Sys) : (y.requestIrq b).iflag = y.iflag ||| (1#16 <<< b) := rfl
@[simp] theorem Sys.requestIrq_ime (b : Nat) (y : Sys) : (y.requestIrq b).ime = y.ime := rfl
@[simp] theorem Sys.requestIrq_halted (b : Nat) (y : Sys) : (y.requestIrq b).halted = y.halted := rfl
@[simp] theorem Sys.requestIrq_stopped (b : Nat) (y : Sys) : (y.requestIrq b).stopped = y.stopped := rfl
@[simp] theorem Sys.requestIrq_waitcnt (b : Nat) (y : Sys) : (y.requestIrq b).waitcnt = y.waitcnt := rfl
@[simp] theorem Sys.requestIrq_postflg (b : Nat) (y : Sys) : (y.requestIrq b).postflg = y.postflg := rfl
@[simp] theorem Sys.requestIrq_storage (b : Nat) (y : Sys) : (y.requestIrq b).storage = y.storage := rfl
@[simp] theorem Sys.requestIrq_soundcntH (b : Nat) (y : Sys) : (y.requestIrq b).soundcntH = y.soundcntH := rfl
@[simp] theorem Sys.requestIrq_timers (b : Nat) (y : Sys) : (y.requestIrq b).timers = y.timers := rfl
@[simp] theorem Sys.requestIrq_dma (b : Nat) (y : Sys) : (y.requestIrq b).dma = y.dma := rfl
@[simp] theorem Sys.requestIrq_fifoA (b : Nat) (y : Sys) : (y.requestIrq b).fifoA = y.fifoA := rfl
@[simp] theorem Sys.requestIrq_fifoB (b : Nat) (y : Sys) : (y.requestIrq b).fifoB = y.fifoB := rfl
@[simp] theorem Sys.requestIrq_keyinput (b : Nat) (y : Sys) : (y.requestIrq b).keyinput = y.keyinput := rfl
@[simp] theorem Sys.requestIrq_keycnt (b : Nat) (y : Sys) : (y.requestIrq b).keycnt = y.keycnt := rfl
@[simp] theorem Sys.requestIrq_ppu (b : Nat) (y : Sys) : (y.requestIrq b).ppu = y.ppu := rfl
@[simp] theorem Sys.requestIrq_fb (b : Nat) (y : Sys) : (y.requestIrq b).fb = y.fb := rfl
@[simp] theorem Sys.requestIrq_flash (b : Nat) (y : Sys) : (y.requestIrq b).flash = y.flash := rfl
@[simp] theorem Sys.requestIrq_eeprom (b : Nat) (y : Sys) : (y.requestIrq b).eeprom = y.eeprom := rfl
@[simp] theorem Sys.requestIrq_device (b : Nat) (y : Sys) : (y.requestIrq b).device = y.device := rfl
@[simp] theorem Sys.requestIrq_now (b : Nat) (y : Sys) : (y.requestIrq b).now = y.now := rfl
@[simp] theorem Sys.requestIrq_events (b : Nat) (y : Sys) : (y.requestIrq b).events = y.events := rfl
@[simp] theorem Sys.requestIrq_nextSeq (b : Nat) (y : Sys) : (y.requestIrq b).nextSeq = y.nextSeq := rfl
@[simp] theorem Sys.requestIrq_frameEndPrev (b : Nat) (y : Sys) : (y.requestIrq b).frameEndPrev = y.frameEndPrev := rfl
@[simp] theorem Sys.requestIrq_cost (b : Nat) (y : Sys) : (y.requestIrq b).cost = y.cost := rfl
@[simp] theorem Sys.requestIrq_midDispatch (b : Nat) (y : Sys) : (y.requestIrq b).midDispatch = y.midDispatch := rfl
@[simp] theorem Sys.requestIrq_dmaPending (b : Nat) (y : Sys) : (y.requestIrq b).dmaPending = y.dmaPending := rfl

@[simp] theorem Sys.setTimer_params (i : Fin 4) (tm : Timer) (y : Sys) : (y.setTimer i tm).params = y.params := rfl
@[simp] theorem Sys.setTimer_mem (i : Fin 4) (tm : Timer) (y : Sys) : (y.setTimer i tm).mem = y.mem := rfl
@[simp] theorem Sys.setTimer_lastFetch (i : Fin 4) (tm : Timer) (y : Sys) : (y.setTimer i tm).lastFetch = y.lastFetch := rfl
@[simp] theorem Sys.setTimer_lastFetchAddr (i : Fin 4) (tm : Timer) (y : Sys) : (y.setTimer i tm).lastFetchAddr = y.lastFetchAddr := rfl
@[simp] theorem Sys.setTimer_biosLatch (i : Fin 4) (tm : Timer) (y : Sys) : (y.setTimer i tm).biosLatch = y.biosLatch := rfl
@[simp] theorem Sys.setTimer_ie (i : Fin 4) (tm : Timer) (y : Sys) : (y.setTimer i tm).ie = y.ie := rfl
@[simp] theorem Sys.setTimer_iflag (i : Fin 4) (tm : Timer) (y : Sys) : (y.setTimer i tm).iflag = y.iflag := rfl
@[simp] theorem Sys.setTimer_ime (i : Fin 4) (tm : Timer) (y : Sys) : (y.setTimer i tm).ime = y.ime := rfl
@[simp] theorem Sys.setTimer_halted (i : Fin 4) (tm : Timer) (y : Sys) : (y.setTimer i tm).halted = y.halted := rfl
@[simp] theorem Sys.setTimer_stopped (i : Fin 4) (tm : Timer) (y : Sys) : (y.setTimer i tm).stopped = y.stopped := rfl
@[simp] theorem Sys.setTimer_waitcnt (i : Fin 4) (tm : Timer) (y : Sys) : (y.setTimer i tm).waitcnt = y.waitcnt := rfl
@[simp] theorem Sys.setTimer_postflg (i : Fin 4) (tm : Timer) (y : Sys) : (y.setTimer i tm).postflg = y.postflg := rfl
@[simp] theorem Sys.setTimer_storage (i : Fin 4) (tm : Timer) (y : Sys) : (y.setTimer i tm).storage = y.storage := rfl
@[simp] theorem Sys.setTimer_soundcntH (i : Fin 4) (tm : Timer) (y : Sys) : (y.setTimer i tm).soundcntH = y.soundcntH := rfl
@[simp] theorem Sys.setTimer_timers (i : Fin 4) (tm : Timer) (y : Sys) : (y.setTimer i tm).timers = y.timers.set i.val tm := rfl
@[simp] theorem Sys.setTimer_dma (i : Fin 4) (tm : Timer) (y : Sys) : (y.setTimer i tm).dma = y.dma := rfl
@[simp] theorem Sys.setTimer_fifoA (i : Fin 4) (tm : Timer) (y : Sys) : (y.setTimer i tm).fifoA = y.fifoA := rfl
@[simp] theorem Sys.setTimer_fifoB (i : Fin 4) (tm : Timer) (y : Sys) : (y.setTimer i tm).fifoB = y.fifoB := rfl
@[simp] theorem Sys.setTimer_keyinput (i : Fin 4) (tm : Timer) (y : Sys) : (y.setTimer i tm).keyinput = y.keyinput := rfl
@[simp] theorem Sys.setTimer_keycnt (i : Fin 4) (tm : Timer) (y : Sys) : (y.setTimer i tm).keycnt = y.keycnt := rfl
@[simp] theorem Sys.setTimer_ppu (i : Fin 4) (tm : Timer) (y : Sys) : (y.setTimer i tm).ppu = y.ppu := rfl
@[simp] theorem Sys.setTimer_fb (i : Fin 4) (tm : Timer) (y : Sys) : (y.setTimer i tm).fb = y.fb := rfl
@[simp] theorem Sys.setTimer_flash (i : Fin 4) (tm : Timer) (y : Sys) : (y.setTimer i tm).flash = y.flash := rfl
@[simp] theorem Sys.setTimer_eeprom (i : Fin 4) (tm : Timer) (y : Sys) : (y.setTimer i tm).eeprom = y.eeprom := rfl
@[simp] theorem Sys.setTimer_device (i : Fin 4) (tm : Timer) (y : Sys) : (y.setTimer i tm).device = y.device := rfl
@[simp] theorem Sys.setTimer_now (i : Fin 4) (tm : Timer) (y : Sys) : (y.setTimer i tm).now = y.now := rfl
@[simp] theorem Sys.setTimer_events (i : Fin 4) (tm : Timer) (y : Sys) : (y.setTimer i tm).events = y.events := rfl
@[simp] theorem Sys.setTimer_nextSeq (i : Fin 4) (tm : Timer) (y : Sys) : (y.setTimer i tm).nextSeq = y.nextSeq := rfl
@[simp] theorem Sys.setTimer_frameEndPrev (i : Fin 4) (tm : Timer) (y : Sys) : (y.setTimer i tm).frameEndPrev = y.frameEndPrev := rfl
@[simp] theorem Sys.setTimer_cost (i : Fin 4) (tm : Timer) (y : Sys) : (y.setTimer i tm).cost = y.cost := rfl
@[simp] theorem Sys.setTimer_midDispatch (i : Fin 4) (tm : Timer) (y : Sys) : (y.setTimer i tm).midDispatch = y.midDispatch := rfl
@[simp] theorem Sys.setTimer_dmaPending (i : Fin 4) (tm : Timer) (y : Sys) : (y.setTimer i tm).dmaPending = y.dmaPending := rfl

@[simp] theorem Sys.setDma_params (c : Fin 4) (d : DmaChannel) (y : Sys) : (y.setDma c d).params = y.params := rfl
@[simp] theorem Sys.setDma_mem (c : Fin 4) (d : DmaChannel) (y : Sys) : (y.setDma c d).mem = y.mem := rfl
@[simp] theorem Sys.setDma_lastFetch (c : Fin 4) (d : DmaChannel) (y : Sys) : (y.setDma c d).lastFetch = y.lastFetch := rfl
@[simp] theorem Sys.setDma_lastFetchAddr (c : Fin 4) (d : DmaChannel) (y : Sys) : (y.setDma c d).lastFetchAddr = y.lastFetchAddr := rfl
@[simp] theorem Sys.setDma_biosLatch (c : Fin 4) (d : DmaChannel) (y : Sys) : (y.setDma c d).biosLatch = y.biosLatch := rfl
@[simp] theorem Sys.setDma_ie (c : Fin 4) (d : DmaChannel) (y : Sys) : (y.setDma c d).ie = y.ie := rfl
@[simp] theorem Sys.setDma_iflag (c : Fin 4) (d : DmaChannel) (y : Sys) : (y.setDma c d).iflag = y.iflag := rfl
@[simp] theorem Sys.setDma_ime (c : Fin 4) (d : DmaChannel) (y : Sys) : (y.setDma c d).ime = y.ime := rfl
@[simp] theorem Sys.setDma_halted (c : Fin 4) (d : DmaChannel) (y : Sys) : (y.setDma c d).halted = y.halted := rfl
@[simp] theorem Sys.setDma_stopped (c : Fin 4) (d : DmaChannel) (y : Sys) : (y.setDma c d).stopped = y.stopped := rfl
@[simp] theorem Sys.setDma_waitcnt (c : Fin 4) (d : DmaChannel) (y : Sys) : (y.setDma c d).waitcnt = y.waitcnt := rfl
@[simp] theorem Sys.setDma_postflg (c : Fin 4) (d : DmaChannel) (y : Sys) : (y.setDma c d).postflg = y.postflg := rfl
@[simp] theorem Sys.setDma_storage (c : Fin 4) (d : DmaChannel) (y : Sys) : (y.setDma c d).storage = y.storage := rfl
@[simp] theorem Sys.setDma_soundcntH (c : Fin 4) (d : DmaChannel) (y : Sys) : (y.setDma c d).soundcntH = y.soundcntH := rfl
@[simp] theorem Sys.setDma_timers (c : Fin 4) (d : DmaChannel) (y : Sys) : (y.setDma c d).timers = y.timers := rfl
@[simp] theorem Sys.setDma_dma (c : Fin 4) (d : DmaChannel) (y : Sys) : (y.setDma c d).dma = y.dma.set c.val d := rfl
@[simp] theorem Sys.setDma_fifoA (c : Fin 4) (d : DmaChannel) (y : Sys) : (y.setDma c d).fifoA = y.fifoA := rfl
@[simp] theorem Sys.setDma_fifoB (c : Fin 4) (d : DmaChannel) (y : Sys) : (y.setDma c d).fifoB = y.fifoB := rfl
@[simp] theorem Sys.setDma_keyinput (c : Fin 4) (d : DmaChannel) (y : Sys) : (y.setDma c d).keyinput = y.keyinput := rfl
@[simp] theorem Sys.setDma_keycnt (c : Fin 4) (d : DmaChannel) (y : Sys) : (y.setDma c d).keycnt = y.keycnt := rfl
@[simp] theorem Sys.setDma_ppu (c : Fin 4) (d : DmaChannel) (y : Sys) : (y.setDma c d).ppu = y.ppu := rfl
@[simp] theorem Sys.setDma_fb (c : Fin 4) (d : DmaChannel) (y : Sys) : (y.setDma c d).fb = y.fb := rfl
@[simp] theorem Sys.setDma_flash (c : Fin 4) (d : DmaChannel) (y : Sys) : (y.setDma c d).flash = y.flash := rfl
@[simp] theorem Sys.setDma_eeprom (c : Fin 4) (d : DmaChannel) (y : Sys) : (y.setDma c d).eeprom = y.eeprom := rfl
@[simp] theorem Sys.setDma_device (c : Fin 4) (d : DmaChannel) (y : Sys) : (y.setDma c d).device = y.device := rfl
@[simp] theorem Sys.setDma_now (c : Fin 4) (d : DmaChannel) (y : Sys) : (y.setDma c d).now = y.now := rfl
@[simp] theorem Sys.setDma_events (c : Fin 4) (d : DmaChannel) (y : Sys) : (y.setDma c d).events = y.events := rfl
@[simp] theorem Sys.setDma_nextSeq (c : Fin 4) (d : DmaChannel) (y : Sys) : (y.setDma c d).nextSeq = y.nextSeq := rfl
@[simp] theorem Sys.setDma_frameEndPrev (c : Fin 4) (d : DmaChannel) (y : Sys) : (y.setDma c d).frameEndPrev = y.frameEndPrev := rfl
@[simp] theorem Sys.setDma_cost (c : Fin 4) (d : DmaChannel) (y : Sys) : (y.setDma c d).cost = y.cost := rfl
@[simp] theorem Sys.setDma_midDispatch (c : Fin 4) (d : DmaChannel) (y : Sys) : (y.setDma c d).midDispatch = y.midDispatch := rfl
@[simp] theorem Sys.setDma_dmaPending (c : Fin 4) (d : DmaChannel) (y : Sys) : (y.setDma c d).dmaPending = y.dmaPending := rfl

@[simp] theorem Sys.flashGoto_params (st : FlashStep) (y : Sys) : (y.flashGoto st).params = y.params := rfl
@[simp] theorem Sys.flashGoto_mem (st : FlashStep) (y : Sys) : (y.flashGoto st).mem = y.mem := rfl
@[simp] theorem Sys.flashGoto_lastFetch (st : FlashStep) (y : Sys) : (y.flashGoto st).lastFetch = y.lastFetch := rfl
@[simp] theorem Sys.flashGoto_lastFetchAddr (st : FlashStep) (y : Sys) : (y.flashGoto st).lastFetchAddr = y.lastFetchAddr := rfl
@[simp] theorem Sys.flashGoto_biosLatch (st : FlashStep) (y : Sys) : (y.flashGoto st).biosLatch = y.biosLatch := rfl
@[simp] theorem Sys.flashGoto_ie (st : FlashStep) (y : Sys) : (y.flashGoto st).ie = y.ie := rfl
@[simp] theorem Sys.flashGoto_iflag (st : FlashStep) (y : Sys) : (y.flashGoto st).iflag = y.iflag := rfl
@[simp] theorem Sys.flashGoto_ime (st : FlashStep) (y : Sys) : (y.flashGoto st).ime = y.ime := rfl
@[simp] theorem Sys.flashGoto_halted (st : FlashStep) (y : Sys) : (y.flashGoto st).halted = y.halted := rfl
@[simp] theorem Sys.flashGoto_stopped (st : FlashStep) (y : Sys) : (y.flashGoto st).stopped = y.stopped := rfl
@[simp] theorem Sys.flashGoto_waitcnt (st : FlashStep) (y : Sys) : (y.flashGoto st).waitcnt = y.waitcnt := rfl
@[simp] theorem Sys.flashGoto_postflg (st : FlashStep) (y : Sys) : (y.flashGoto st).postflg = y.postflg := rfl
@[simp] theorem Sys.flashGoto_storage (st : FlashStep) (y : Sys) : (y.flashGoto st).storage = y.storage := rfl
@[simp] theorem Sys.flashGoto_soundcntH (st : FlashStep) (y : Sys) : (y.flashGoto st).soundcntH = y.soundcntH := rfl
@[simp] theorem Sys.flashGoto_timers (st : FlashStep) (y : Sys) : (y.flashGoto st).timers = y.timers := rfl
@[simp] theorem Sys.flashGoto_dma (st : FlashStep) (y : Sys) : (y.flashGoto st).dma = y.dma := rfl
@[simp] theorem Sys.flashGoto_fifoA (st : FlashStep) (y : Sys) : (y.flashGoto st).fifoA = y.fifoA := rfl
@[simp] theorem Sys.flashGoto_fifoB (st : FlashStep) (y : Sys) : (y.flashGoto st).fifoB = y.fifoB := rfl
@[simp] theorem Sys.flashGoto_keyinput (st : FlashStep) (y : Sys) : (y.flashGoto st).keyinput = y.keyinput := rfl
@[simp] theorem Sys.flashGoto_keycnt (st : FlashStep) (y : Sys) : (y.flashGoto st).keycnt = y.keycnt := rfl
@[simp] theorem Sys.flashGoto_ppu (st : FlashStep) (y : Sys) : (y.flashGoto st).ppu = y.ppu := rfl
@[simp] theorem Sys.flashGoto_fb (st : FlashStep) (y : Sys) : (y.flashGoto st).fb = y.fb := rfl
@[simp] theorem Sys.flashGoto_flash (st : FlashStep) (y : Sys) : (y.flashGoto st).flash = { y.flash with step := st } := rfl
@[simp] theorem Sys.flashGoto_eeprom (st : FlashStep) (y : Sys) : (y.flashGoto st).eeprom = y.eeprom := rfl
@[simp] theorem Sys.flashGoto_device (st : FlashStep) (y : Sys) : (y.flashGoto st).device = y.device := rfl
@[simp] theorem Sys.flashGoto_now (st : FlashStep) (y : Sys) : (y.flashGoto st).now = y.now := rfl
@[simp] theorem Sys.flashGoto_events (st : FlashStep) (y : Sys) : (y.flashGoto st).events = y.events := rfl
@[simp] theorem Sys.flashGoto_nextSeq (st : FlashStep) (y : Sys) : (y.flashGoto st).nextSeq = y.nextSeq := rfl
@[simp] theorem Sys.flashGoto_frameEndPrev (st : FlashStep) (y : Sys) : (y.flashGoto st).frameEndPrev = y.frameEndPrev := rfl
@[simp] theorem Sys.flashGoto_cost (st : FlashStep) (y : Sys) : (y.flashGoto st).cost = y.cost := rfl
@[simp] theorem Sys.flashGoto_midDispatch (st : FlashStep) (y : Sys) : (y.flashGoto st).midDispatch = y.midDispatch := rfl
@[simp] theorem Sys.flashGoto_dmaPending (st : FlashStep) (y : Sys) : (y.flashGoto st).dmaPending = y.dmaPending := rfl

/-! ## Time -/

@[simp] theorem State.commit_cpu (s : State) : s.commit.cpu = s.cpu := rfl
@[simp] theorem State.rollFrame_cpu (s : State) : s.rollFrame.cpu = s.cpu := rfl
@[simp] theorem State.idle_cpu (s : State) : s.idle.cpu = s.cpu := rfl
@[simp] theorem State.commit_sys_params (s : State) : s.commit.sys.params = s.sys.params := rfl
@[simp] theorem State.commit_sys_mem (s : State) : s.commit.sys.mem = s.sys.mem := rfl
@[simp] theorem State.commit_sys_lastFetch (s : State) : s.commit.sys.lastFetch = s.sys.lastFetch := rfl
@[simp] theorem State.commit_sys_lastFetchAddr (s : State) : s.commit.sys.lastFetchAddr = s.sys.lastFetchAddr := rfl
@[simp] theorem State.commit_sys_biosLatch (s : State) : s.commit.sys.biosLatch = s.sys.biosLatch := rfl
@[simp] theorem State.commit_sys_ie (s : State) : s.commit.sys.ie = s.sys.ie := rfl
@[simp] theorem State.commit_sys_iflag (s : State) : s.commit.sys.iflag = s.sys.iflag := rfl
@[simp] theorem State.commit_sys_ime (s : State) : s.commit.sys.ime = s.sys.ime := rfl
@[simp] theorem State.commit_sys_halted (s : State) : s.commit.sys.halted = s.sys.halted := rfl
@[simp] theorem State.commit_sys_stopped (s : State) : s.commit.sys.stopped = s.sys.stopped := rfl
@[simp] theorem State.commit_sys_waitcnt (s : State) : s.commit.sys.waitcnt = s.sys.waitcnt := rfl
@[simp] theorem State.commit_sys_postflg (s : State) : s.commit.sys.postflg = s.sys.postflg := rfl
@[simp] theorem State.commit_sys_storage (s : State) : s.commit.sys.storage = s.sys.storage := rfl
@[simp] theorem State.commit_sys_soundcntH (s : State) : s.commit.sys.soundcntH = s.sys.soundcntH := rfl
@[simp] theorem State.commit_sys_timers (s : State) : s.commit.sys.timers = s.sys.timers := rfl
@[simp] theorem State.commit_sys_dma (s : State) : s.commit.sys.dma = s.sys.dma := rfl
@[simp] theorem State.commit_sys_fifoA (s : State) : s.commit.sys.fifoA = s.sys.fifoA := rfl
@[simp] theorem State.commit_sys_fifoB (s : State) : s.commit.sys.fifoB = s.sys.fifoB := rfl
@[simp] theorem State.commit_sys_keyinput (s : State) : s.commit.sys.keyinput = s.sys.keyinput := rfl
@[simp] theorem State.commit_sys_keycnt (s : State) : s.commit.sys.keycnt = s.sys.keycnt := rfl
@[simp] theorem State.commit_sys_ppu (s : State) : s.commit.sys.ppu = s.sys.ppu := rfl
@[simp] theorem State.commit_sys_fb (s : State) : s.commit.sys.fb = s.sys.fb := rfl
@[simp] theorem State.commit_sys_flash (s : State) : s.commit.sys.flash = s.sys.flash := rfl
@[simp] theorem State.commit_sys_eeprom (s : State) : s.commit.sys.eeprom = s.sys.eeprom := rfl
@[simp] theorem State.commit_sys_device (s : State) : s.commit.sys.device = s.sys.device := rfl
@[simp] theorem State.commit_sys_now (s : State) : s.commit.sys.now = s.sys.now + s.sys.cost := rfl
@[simp] theorem State.commit_sys_events (s : State) : s.commit.sys.events = s.sys.events := rfl
@[simp] theorem State.commit_sys_nextSeq (s : State) : s.commit.sys.nextSeq = s.sys.nextSeq := rfl
@[simp] theorem State.commit_sys_frameEndPrev (s : State) : s.commit.sys.frameEndPrev = s.sys.frameEndPrev := rfl
@[simp] theorem State.commit_sys_cost (s : State) : s.commit.sys.cost = 0 := rfl
@[simp] theorem State.commit_sys_midDispatch (s : State) : s.commit.sys.midDispatch = s.sys.midDispatch := rfl
@[simp] theorem State.commit_sys_dmaPending (s : State) : s.commit.sys.dmaPending = s.sys.dmaPending := rfl

@[simp] theorem State.rollFrame_sys_params (s : State) : s.rollFrame.sys.params = s.sys.params := rfl
@[simp] theorem State.rollFrame_sys_mem (s : State) : s.rollFrame.sys.mem = s.sys.mem := rfl
@[simp] theorem State.rollFrame_sys_lastFetch (s : State) : s.rollFrame.sys.lastFetch = s.sys.lastFetch := rfl
@[simp] theorem State.rollFrame_sys_lastFetchAddr (s : State) : s.rollFrame.sys.lastFetchAddr = s.sys.lastFetchAddr := rfl
@[simp] theorem State.rollFrame_sys_biosLatch (s : State) : s.rollFrame.sys.biosLatch = s.sys.biosLatch := rfl
@[simp] theorem State.rollFrame_sys_ie (s : State) : s.rollFrame.sys.ie = s.sys.ie := rfl
@[simp] theorem State.rollFrame_sys_iflag (s : State) : s.rollFrame.sys.iflag = s.sys.iflag := rfl
@[simp] theorem State.rollFrame_sys_ime (s : State) : s.rollFrame.sys.ime = s.sys.ime := rfl
@[simp] theorem State.rollFrame_sys_halted (s : State) : s.rollFrame.sys.halted = s.sys.halted := rfl
@[simp] theorem State.rollFrame_sys_stopped (s : State) : s.rollFrame.sys.stopped = s.sys.stopped := rfl
@[simp] theorem State.rollFrame_sys_waitcnt (s : State) : s.rollFrame.sys.waitcnt = s.sys.waitcnt := rfl
@[simp] theorem State.rollFrame_sys_postflg (s : State) : s.rollFrame.sys.postflg = s.sys.postflg := rfl
@[simp] theorem State.rollFrame_sys_storage (s : State) : s.rollFrame.sys.storage = s.sys.storage := rfl
@[simp] theorem State.rollFrame_sys_soundcntH (s : State) : s.rollFrame.sys.soundcntH = s.sys.soundcntH := rfl
@[simp] theorem State.rollFrame_sys_timers (s : State) : s.rollFrame.sys.timers = s.sys.timers := rfl
@[simp] theorem State.rollFrame_sys_dma (s : State) : s.rollFrame.sys.dma = s.sys.dma := rfl
@[simp] theorem State.rollFrame_sys_fifoA (s : State) : s.rollFrame.sys.fifoA = s.sys.fifoA := rfl
@[simp] theorem State.rollFrame_sys_fifoB (s : State) : s.rollFrame.sys.fifoB = s.sys.fifoB := rfl
@[simp] theorem State.rollFrame_sys_keyinput (s : State) : s.rollFrame.sys.keyinput = s.sys.keyinput := rfl
@[simp] theorem State.rollFrame_sys_keycnt (s : State) : s.rollFrame.sys.keycnt = s.sys.keycnt := rfl
@[simp] theorem State.rollFrame_sys_ppu (s : State) : s.rollFrame.sys.ppu = s.sys.ppu := rfl
@[simp] theorem State.rollFrame_sys_fb (s : State) : s.rollFrame.sys.fb = s.sys.fb := rfl
@[simp] theorem State.rollFrame_sys_flash (s : State) : s.rollFrame.sys.flash = s.sys.flash := rfl
@[simp] theorem State.rollFrame_sys_eeprom (s : State) : s.rollFrame.sys.eeprom = s.sys.eeprom := rfl
@[simp] theorem State.rollFrame_sys_device (s : State) : s.rollFrame.sys.device = s.sys.device := rfl
@[simp] theorem State.rollFrame_sys_now (s : State) : s.rollFrame.sys.now = s.sys.now := rfl
@[simp] theorem State.rollFrame_sys_events (s : State) : s.rollFrame.sys.events = s.sys.events := rfl
@[simp] theorem State.rollFrame_sys_nextSeq (s : State) : s.rollFrame.sys.nextSeq = s.sys.nextSeq := rfl
@[simp] theorem State.rollFrame_sys_cost (s : State) : s.rollFrame.sys.cost = s.sys.cost := rfl
@[simp] theorem State.rollFrame_sys_midDispatch (s : State) : s.rollFrame.sys.midDispatch = s.sys.midDispatch := rfl
@[simp] theorem State.rollFrame_sys_dmaPending (s : State) : s.rollFrame.sys.dmaPending = s.sys.dmaPending := rfl

@[simp] theorem State.idle_sys_params (s : State) : s.idle.sys.params = s.sys.params := rfl
@[simp] theorem State.idle_sys_mem (s : State) : s.idle.sys.mem = s.sys.mem := rfl
@[simp] theorem State.idle_sys_lastFetch (s : State) : s.idle.sys.lastFetch = s.sys.lastFetch := rfl
@[simp] theorem State.idle_sys_lastFetchAddr (s : State) : s.idle.sys.lastFetchAddr = s.sys.lastFetchAddr := rfl
@[simp] theorem State.idle_sys_biosLatch (s : State) : s.idle.sys.biosLatch = s.sys.biosLatch := rfl
@[simp] theorem State.idle_sys_ie (s : State) : s.idle.sys.ie = s.sys.ie := rfl
@[simp] theorem State.idle_sys_iflag (s : State) : s.idle.sys.iflag = s.sys.iflag := rfl
@[simp] theorem State.idle_sys_ime (s : State) : s.idle.sys.ime = s.sys.ime := rfl
@[simp] theorem State.idle_sys_halted (s : State) : s.idle.sys.halted = s.sys.halted := rfl
@[simp] theorem State.idle_sys_stopped (s : State) : s.idle.sys.stopped = s.sys.stopped := rfl
@[simp] theorem State.idle_sys_waitcnt (s : State) : s.idle.sys.waitcnt = s.sys.waitcnt := rfl
@[simp] theorem State.idle_sys_postflg (s : State) : s.idle.sys.postflg = s.sys.postflg := rfl
@[simp] theorem State.idle_sys_storage (s : State) : s.idle.sys.storage = s.sys.storage := rfl
@[simp] theorem State.idle_sys_soundcntH (s : State) : s.idle.sys.soundcntH = s.sys.soundcntH := rfl
@[simp] theorem State.idle_sys_timers (s : State) : s.idle.sys.timers = s.sys.timers := rfl
@[simp] theorem State.idle_sys_dma (s : State) : s.idle.sys.dma = s.sys.dma := rfl
@[simp] theorem State.idle_sys_fifoA (s : State) : s.idle.sys.fifoA = s.sys.fifoA := rfl
@[simp] theorem State.idle_sys_fifoB (s : State) : s.idle.sys.fifoB = s.sys.fifoB := rfl
@[simp] theorem State.idle_sys_keyinput (s : State) : s.idle.sys.keyinput = s.sys.keyinput := rfl
@[simp] theorem State.idle_sys_keycnt (s : State) : s.idle.sys.keycnt = s.sys.keycnt := rfl
@[simp] theorem State.idle_sys_ppu (s : State) : s.idle.sys.ppu = s.sys.ppu := rfl
@[simp] theorem State.idle_sys_fb (s : State) : s.idle.sys.fb = s.sys.fb := rfl
@[simp] theorem State.idle_sys_flash (s : State) : s.idle.sys.flash = s.sys.flash := rfl
@[simp] theorem State.idle_sys_eeprom (s : State) : s.idle.sys.eeprom = s.sys.eeprom := rfl
@[simp] theorem State.idle_sys_device (s : State) : s.idle.sys.device = s.sys.device := rfl
@[simp] theorem State.idle_sys_events (s : State) : s.idle.sys.events = s.sys.events := rfl
@[simp] theorem State.idle_sys_nextSeq (s : State) : s.idle.sys.nextSeq = s.sys.nextSeq := rfl
@[simp] theorem State.idle_sys_frameEndPrev (s : State) : s.idle.sys.frameEndPrev = s.sys.frameEndPrev := rfl
@[simp] theorem State.idle_sys_cost (s : State) : s.idle.sys.cost = s.sys.cost := rfl
@[simp] theorem State.idle_sys_midDispatch (s : State) : s.idle.sys.midDispatch = s.sys.midDispatch := rfl
@[simp] theorem State.idle_sys_dmaPending (s : State) : s.idle.sys.dmaPending = s.sys.dmaPending := rfl

end Sys2Proof.Machine
end

