-- ==== Sys2Proof/Laws/Registers.lean ====
section
/-! SUPPORT. The register file (spec/10_state.md R41, R42): the places of the registers of a view are distinct, and a read
after a write. -/

namespace Sys2Proof.Machine

open Sys2Proof

/-- Distinct registers of a view have distinct places (10_state.md R41). -/
theorem physIndex_injective (b : Bank) (r r' : RegNum) (h : r ≠ 15#4) (h' : r' ≠ 15#4)
    (e : physIndex b r = physIndex b r') : r = r' := by
  revert r r'
  cases b <;> decide

/-- R0..R7 are one copy for every view (10_state.md R42). -/
theorem physIndex_low (b b' : Bank) (r : RegNum) (h : r.toNat < 8) : physIndex b r = physIndex b' r := by
  simp [physIndex, h]

theorem Cpu.bankReg_setBankReg_same (c : Cpu) (b : Bank) (r : RegNum) (v : Word) (h : r ≠ 15#4) :
    (c.setBankReg b r v).bankReg b r = v := by
  simp [Cpu.setBankReg, Cpu.bankReg, h]

theorem Cpu.setBankReg_regs_of (c : Cpu) (b : Bank) (r : RegNum) (v : Word) (h : r ≠ 15#4) :
    (c.setBankReg b r v).regs = c.regs.set (physIndex b r) v := by
  simp [Cpu.setBankReg, h]

@[simp] theorem Cpu.setBankReg_pc_register (c : Cpu) (b : Bank) (v : Word) : c.setBankReg b 15#4 v = c := by
  simp [Cpu.setBankReg]

/-- A write of a register leaves every other place (10_state.md R42). -/
theorem Cpu.setBankReg_regs_other (c : Cpu) (b : Bank) (r : RegNum) (v : Word) (k : Fin 30) (h : k ≠ physIndex b r) :
    (c.setBankReg b r v).regs[k] = c.regs[k] := by
  unfold Cpu.setBankReg
  split
  · rfl
  · have hk : (physIndex b r).val ≠ k.val := fun e => h (Fin.ext e.symm)
    simp [Vector.getElem_set_ne, hk]

theorem Cpu.bankReg_setBankReg_other (c : Cpu) (b b' : Bank) (r r' : RegNum) (v : Word)
    (h : physIndex b' r' ≠ physIndex b r) : (c.setBankReg b r v).bankReg b' r' = c.bankReg b' r' :=
  Cpu.setBankReg_regs_other c b r v _ h

@[simp] theorem State.setReg_bank (r : RegNum) (v : Word) (s : State) : (s.setReg r v).cpu.bank = s.cpu.bank := by
  simp [Cpu.bank]

@[simp] theorem State.advance_regs_bank (s : State) : s.advance.cpu.bank = s.cpu.bank := by simp [Cpu.bank]

@[simp] theorem State.internal_bank (n : Nat) (s : State) : (s.internal n).cpu.bank = s.cpu.bank := rfl

/-- A register read after it is written (00_scope.md R17). -/
theorem State.reg_setReg_same (s : State) (r : RegNum) (v : Word) (h : r ≠ 15#4) : (s.setReg r v).reg r = v := by
  simp only [State.reg, State.regIn, if_neg h, State.setReg_bank]
  exact Cpu.bankReg_setBankReg_same s.cpu s.cpu.bank r v h

/-- A register read after another is written (00_scope.md R17). -/
theorem State.reg_setReg_other (s : State) (r r' : RegNum) (v : Word) (h : r ≠ 15#4) (hne : r' ≠ r) :
    (s.setReg r v).reg r' = s.reg r' := by
  simp only [State.reg, State.regIn, State.setReg_bank]
  split
  · simp [State.pcRead]
  · rename_i h15
    exact Cpu.bankReg_setBankReg_other s.cpu s.cpu.bank s.cpu.bank r r' v
      (fun e => hne (physIndex_injective s.cpu.bank r' r h15 h e))

/-- The writes of a load-multiple keep everything but the general registers. -/
theorem State.writeLoaded_rest (b : Bank) (l : List (RegNum × Word)) (s : State) :
    (s.writeLoaded b l).sys = s.sys ∧ (s.writeLoaded b l).cpu.cpsr = s.cpu.cpsr ∧
      (s.writeLoaded b l).cpu.spsr = s.cpu.spsr ∧ (s.writeLoaded b l).cpu.pc = s.cpu.pc ∧
      (s.writeLoaded b l).cpu.pipe0 = s.cpu.pipe0 ∧ (s.writeLoaded b l).cpu.pipe1 = s.cpu.pipe1 := by
  induction l generalizing s with
  | nil => exact ⟨rfl, rfl, rfl, rfl, rfl, rfl⟩
  | cons x l ih =>
    obtain ⟨h1, h2, h3, h4, h5, h6⟩ := ih (s.setRegIn b x.1 x.2)
    simp only [State.writeLoaded]
    exact ⟨by simp [h1], by simp [h2], by simp [h3], by simp [h4], by simp [h5], by simp [h6]⟩

/-- The writes of a load-multiple leave every place that is not a listed register's. -/
theorem State.writeLoaded_regs_other (b : Bank) (l : List (RegNum × Word)) (s : State) (k : Fin 30)
    (h : ∀ x ∈ l, x.1 = 15#4 ∨ k ≠ physIndex b x.1) : (s.writeLoaded b l).cpu.regs[k] = s.cpu.regs[k] := by
  induction l generalizing s with
  | nil => rfl
  | cons x l ih =>
    simp only [State.writeLoaded]
    rw [ih _ (fun y hy => h y (List.mem_cons_of_mem _ hy))]
    rcases h x (by simp) with h15 | hne
    · rw [show (s.setRegIn b x.1 x.2) = s by simp [State.setRegIn, h15]]
    · exact Cpu.setBankReg_regs_other s.cpu b x.1 x.2 k hne

end Sys2Proof.Machine
end

