-- ==== Sys2Proof/Laws/Exec.lean ====
section
/-! SUPPORT. What the meanings do outside the CPU: every instruction that goes on has run charged accesses of the bus, and
nothing else (spec/20_memory.md R162).  One lemma per shared operation. -/

namespace Sys2Proof.Machine

open Sys2Proof

/-- If the answer is a next state, it has the property. -/
def Holds (P : State → Prop) (r : Result) : Prop := ∀ t, r = .next t → P t

theorem Holds.next {P : State → Prop} {t : State} (h : P t) : Holds P (.next t) := fun _ e => by cases e; exact h

theorem Holds.fault (P : State → Prop) (f : Fault) : Holds P (.fault f) := fun _ e => by cases e

theorem Holds.orFault {α : Type} {P : State → Prop} {x : Except Fault α} {k : α → Result}
    (h : ∀ a, x = .ok a → Holds P (k a)) : Holds P (orFault x k) := by
  cases x with
  | error f => exact Holds.fault P f
  | ok a => exact h a rfl

theorem Holds.ite {P : State → Prop} {c : Prop} [Decidable c] {r r' : Result} (h : c → Holds P r)
    (h' : ¬ c → Holds P r') : Holds P (if c then r else r') := by
  split
  · exact h ‹_›
  · exact h' ‹_›

theorem Holds.unpredictable {P : State → Prop} {s : State} {c : UnpredCase} {bad : Bool} {k : Result} (h : Holds P k) :
    Holds P (s.unpredictable c bad k) := .ite (fun _ => Holds.fault P _) (fun _ => h)

theorem Holds.unpredictableCase {P : State → Prop} {s : State} {c : Option UnpredCase} {bad : Bool} {k : Result}
    (h : Holds P k) : Holds P (s.unpredictableCase c bad k) := by
  cases c
  · exact h
  · exact h.unpredictable

theorem Holds.whenPassed {P : State → Prop} {s : State} {c : Cond} {k : State → Result}
    (h : condHolds c s.cpu.cpsr = true → Holds P (k s)) (h' : condHolds c s.cpu.cpsr = false → P s.advance) :
    Holds P (s.whenPassed c k) :=
  .ite h (fun hc => .next (h' (by simpa using hc)))

theorem Holds.imp {P Q : State → Prop} {r : Result} (h : Holds P r) (hpq : ∀ t, P t → Q t) : Holds Q r :=
  fun t e => hpq t (h t e)

/-! ## The system after each shared operation -/

/-- The system of a state is reached from another by charged accesses. -/
structure Runs (y : Sys) (t : State) : Prop where
  run : SysRun y t.sys

theorem Runs.refl (s : State) : Runs s.sys s := ⟨SysRun.refl s.sys⟩

theorem Runs.congr {y : Sys} {s t : State} (h : Runs y s) (e : t.sys = s.sys) : Runs y t := ⟨by rw [e]; exact h.run⟩

theorem Runs.advance {y : Sys} {s : State} (h : Runs y s) : Runs y s.advance := h.congr rfl

theorem Runs.setReg {y : Sys} {s : State} {r : RegNum} {v : Word} (h : Runs y s) : Runs y (s.setReg r v) := h.congr rfl

theorem Runs.setCpsr {y : Sys} {s : State} {p : Psr} (h : Runs y s) : Runs y (s.setCpsr p) := h.congr rfl

theorem Runs.internal {y : Sys} {s : State} {n : Nat} (h : Runs y s) : Runs y (s.internal n) :=
  ⟨h.run.trans (SysRun.charge _ n)⟩

theorem Runs.ite {y : Sys} {s t : State} {c : Prop} [Decidable c] (h : Runs y s) (h' : Runs y t) :
    Runs y (if c then s else t) := by
  split
  · exact h
  · exact h'

theorem Runs.branch {y : Sys} {s : State} {target : Word} (h : Runs y s) : Runs y (s.branch target) :=
  ⟨h.run.trans ((SysRun.fetch s.sys .nonseq _ _).trans (SysRun.fetch _ .seq _ _))⟩

theorem Runs.finish {y : Sys} {s : State} {rd : RegNum} {v : Word} (h : Runs y s) : Runs y (s.finish rd v) :=
  h.branch.ite h.setReg.advance

theorem Runs.writeBack {y : Sys} {s : State} {wb : Bool} {rn : RegNum} {moved : Word} (h : Runs y s) :
    Runs y (s.writeBack wb rn moved) := h.setReg.ite h

theorem Runs.loadValue {y : Sys} {s : State} {k : LoadKind} {a : Word} (h : Runs y s) : Runs y (s.loadValue k a).2 :=
  ⟨h.run.trans (SysRun.load s.sys .nonseq (k.width a) a)⟩

theorem Runs.loadReg {y : Sys} {s : State} {k : LoadKind} {a : Word} {wb : Bool} {rn : RegNum} {moved : Word}
    {rd : RegNum} (h : Runs y s) : Runs y (s.loadReg k a wb rn moved rd) := h.loadValue.writeBack.internal.finish

theorem Runs.stored {y z : Sys} {s : State} {kind : Access} {w : Width} {a v : Word} (h : Runs y s)
    (e : s.sys.store kind w a v = .ok z) : Runs y (s.withSys z) := ⟨h.run.trans (SysRun.store e)⟩

theorem Runs.storeReg {y : Sys} {s : State} {w : Width} {a v : Word} {wb : Bool} {rn : RegNum} {moved : Word}
    (h : Runs y s) : Holds (Runs y) (s.storeReg w a v wb rn moved) :=
  .orFault fun _ e => .next (h.stored e).writeBack.advance

theorem Sys.loadBlock_run (l : List RegNum) (kind : Access) (a : Word) (y : Sys) : SysRun y (y.loadBlock kind a l).2 := by
  induction l generalizing kind a y with
  | nil => exact SysRun.refl y
  | cons r l ih => exact (SysRun.load y kind .word a).trans (ih _ _ _)

theorem Runs.storeBlock {y : Sys} {b : Bank} {l : List RegNum} {kind : Access} {a : Word} {s t : State} (h : Runs y s)
    (e : s.storeBlock b kind a l = .ok t) : Runs y t := by
  induction l generalizing kind a s with
  | nil => cases e; exact h
  | cons r l ih =>
    simp only [State.storeBlock] at e
    split at e
    · exact ih (h.stored ‹_›) e
    · cases e

theorem Runs.storeMultiple {y : Sys} {b : Bank} {plan : BlockPlan} {wb : Bool} {rn : RegNum} {s : State} (h : Runs y s) :
    Holds (Runs y) (s.storeMultiple b plan wb rn) := by
  unfold State.storeMultiple
  split
  · exact .next h.advance
  · exact .orFault fun _ e => .orFault fun _ e' => .next ((h.storeBlock e).writeBack.storeBlock e').advance

theorem Runs.restoreCpsr {y : Sys} {s t : State} (h : Runs y s) (e : s.restoreCpsr = .ok t) : Runs y t := by
  unfold State.restoreCpsr at e
  split at e <;> split at e <;> cases e
  · exact h.setCpsr
  · exact h

theorem Runs.writeLoaded {y : Sys} {b : Bank} {l : List (RegNum × Word)} {s : State} (h : Runs y s) :
    Runs y (s.writeLoaded b l) := h.congr (State.writeLoaded_rest b l s).1

theorem Runs.loadMultiple {y : Sys} {b : Bank} {plan : BlockPlan} {wb : Bool} {rn : RegNum} {restore : Bool} {s : State}
    (h : Runs y s) : Holds (Runs y) (s.loadMultiple b plan wb rn restore) := by
  have h1 : Runs y (s.withSys (s.sys.loadBlock .nonseq plan.start plan.regs).2) :=
    ⟨h.run.trans (Sys.loadBlock_run _ _ _ _)⟩
  have h2 := (h1.writeBack (wb := wb) (rn := rn) (moved := plan.moved)).writeLoaded (b := b)
    (l := (s.sys.loadBlock .nonseq plan.start plan.regs).1) |>.internal (n := 1)
  unfold State.loadMultiple
  dsimp only
  split
  · exact .next h2.advance
  · exact .ite (fun _ => .orFault fun _ e => .next (h2.restoreCpsr e).branch) (fun _ => .next h2.branch)

theorem Runs.enterException {y : Sys} {s : State} {e : Exception} {ret : Word} (h : Runs y s) :
    Runs y (s.enterException e ret) := by
  unfold State.enterException
  exact Runs.branch (h.congr rfl)

theorem Runs.takeSwi {y : Sys} {s : State} (h : Runs y s) : Runs y s.takeSwi := h.enterException

theorem Runs.takeUndefined {y : Sys} {s : State} (h : Runs y s) : Runs y s.takeUndefined := h.internal.enterException

theorem Runs.exchange {y : Sys} {s : State} {target : Word} (h : Runs y s) : Runs y (s.exchange target) :=
  h.setCpsr.branch

/-! ## The families -/

theorem dataProcessing_runs {y : Sys} {op : DpOp} {s : Bool} {rd : RegNum} {a b : Word} {sc : Bool} {st : State}
    (h : Runs y st) : Holds (Runs y) (dataProcessing op s rd a b sc st) := by
  unfold dataProcessing
  refine .ite (fun _ => .ite (fun _ => .orFault fun _ e => .next (h.restoreCpsr e).branch) (fun _ => .next h.branch))
    (fun _ => .next (h.congr ?_))
  rw [State.advance_sys]
  cases s <;> cases dpWritesRd op <;> rfl

theorem dpShiftImmediate_runs {y : Sys} {op : DpOp} {s : Bool} {rn rd : RegNum} {n : BitVec 5} {k : ShiftKind}
    {rm : RegNum} {st : State} (h : Runs y st) : Holds (Runs y) (dpShiftImmediate op s rn rd n k rm st) :=
  dataProcessing_runs h

theorem dpImmediate_runs {y : Sys} {op : DpOp} {s : Bool} {rn rd : RegNum} {r : BitVec 4} {v : BitVec 8} {st : State}
    (h : Runs y st) : Holds (Runs y) (dpImmediate op s rn rd r v st) := dataProcessing_runs h

theorem dpShiftRegister_runs {y : Sys} {op : DpOp} {s : Bool} {rn rd rs : RegNum} {k : ShiftKind} {rm : RegNum}
    {st : State} (h : Runs y st) : Holds (Runs y) (dpShiftRegister op s rn rd rs k rm st) :=
  .unpredictable (.unpredictable (dataProcessing_runs h.internal))

theorem Runs.finishLong {y : Sys} {s : State} {rdHi rdLo : RegNum} {hi lo : Word} (h : Runs y s) :
    Runs y (s.finishLong rdHi rdLo hi lo) := h.setReg.setReg.branch.ite (h.setReg.setReg.branch.ite h.setReg.setReg.advance)

theorem multiply_runs {y : Sys} {s : Bool} {rd rs rm : RegNum} {addend : Word} {extra : Nat} {st : State}
    (h : Runs y st) : Holds (Runs y) (multiply s rd rs rm addend extra st) :=
  .next (h.internal.setCpsr.ite h.internal).finish

theorem multiplyShort_runs {y : Sys} {s : Bool} {rd rs rm : RegNum} {acc : Option RegNum} {st : State} (h : Runs y st) :
    Holds (Runs y) (multiplyShort s rd rs rm acc st) := by
  refine .unpredictable (.unpredictable ?_)
  cases acc <;> exact multiply_runs h

theorem multiplyLong_runs {y : Sys} {signed acc s : Bool} {rdHi rdLo rs rm : RegNum} {st : State} (h : Runs y st) :
    Holds (Runs y) (multiplyLong signed acc s rdHi rdLo rs rm st) :=
  .unpredictable (.unpredictable (.unpredictable (.next (h.internal.setCpsr.ite h.internal).finishLong)))

theorem writePsr_runs {y : Sys} {r : Bool} {mask : BitVec 4} {v : Word} {st : State} (h : Runs y st) :
    Holds (Runs y) (writePsr r mask v st) := by
  unfold writePsr
  refine .ite (fun _ => ?_) (fun _ => ?_)
  · unfold writeSpsr
    split
    · exact .unpredictable (.next h.advance)
    · exact .next (h.congr rfl)
  · exact .ite (fun _ => .ite (fun _ => Holds.fault _ _) (fun _ => .unpredictable (.next h.setCpsr.advance)))
      (fun _ => .next h.setCpsr.advance)

theorem writePsrRegister_runs {y : Sys} {r : Bool} {mask : BitVec 4} {rm : RegNum} {st : State} (h : Runs y st) :
    Holds (Runs y) (writePsrRegister r mask rm st) := .unpredictable (writePsr_runs h)

theorem readPsr_runs {y : Sys} {r : Bool} {rd : RegNum} {st : State} (h : Runs y st) :
    Holds (Runs y) (readPsr r rd st) := by
  refine .unpredictable (.ite (fun _ => ?_) (fun _ => .next h.finish))
  split
  · exact .next h.finish
  · exact .unpredictable (.next h.finish)

theorem loadTransfer_runs {y : Sys} {k : LoadKind} {x : Indexing} {rn rd : RegNum} {offset : Word} {st : State}
    (h : Runs y st) : Holds (Runs y) (loadTransfer k x rn rd offset st) :=
  .unpredictable (.unpredictable (.unpredictableCase (.next h.loadReg)))

theorem storeTransfer_runs {y : Sys} {w : Width} {x : Indexing} {rn rd : RegNum} {offset : Word} {st : State}
    (h : Runs y st) : Holds (Runs y) (storeTransfer w x rn rd offset st) :=
  .unpredictable (.unpredictableCase h.storeReg)

theorem loadImm_runs {y : Sys} {k : LoadKind} {x : Indexing} {rn rd : RegNum} {o : BitVec 12} {st : State}
    (h : Runs y st) : Holds (Runs y) (loadImm k x rn rd o st) := loadTransfer_runs h

theorem storeImm_runs {y : Sys} {w : Width} {x : Indexing} {rn rd : RegNum} {o : BitVec 12} {st : State}
    (h : Runs y st) : Holds (Runs y) (storeImm w x rn rd o st) := storeTransfer_runs h

theorem loadShifted_runs {y : Sys} {k : LoadKind} {x : Indexing} {rn rd : RegNum} {n : BitVec 5} {t : ShiftKind}
    {rm : RegNum} {st : State} (h : Runs y st) : Holds (Runs y) (loadShifted k x rn rd n t rm st) :=
  .unpredictable (loadTransfer_runs h)

theorem storeShifted_runs {y : Sys} {w : Width} {x : Indexing} {rn rd : RegNum} {n : BitVec 5} {t : ShiftKind}
    {rm : RegNum} {st : State} (h : Runs y st) : Holds (Runs y) (storeShifted w x rn rd n t rm st) :=
  .unpredictable (storeTransfer_runs h)

theorem loadHalfImm_runs {y : Sys} {k : LoadKind} {p u w : Bool} {rn rd : RegNum} {hi lo : BitVec 4} {st : State}
    (h : Runs y st) : Holds (Runs y) (loadHalfImm k p u w rn rd hi lo st) := .unpredictable (loadTransfer_runs h)

theorem loadHalfReg_runs {y : Sys} {k : LoadKind} {p u w : Bool} {rn rd rm : RegNum} {st : State} (h : Runs y st) :
    Holds (Runs y) (loadHalfReg k p u w rn rd rm st) := .unpredictable (.unpredictable (loadTransfer_runs h))

theorem storeHalfImm_runs {y : Sys} {p u w : Bool} {rn rd : RegNum} {hi lo : BitVec 4} {st : State} (h : Runs y st) :
    Holds (Runs y) (storeHalfImm p u w rn rd hi lo st) := .unpredictable (storeTransfer_runs h)

theorem storeHalfReg_runs {y : Sys} {p u w : Bool} {rn rd rm : RegNum} {st : State} (h : Runs y st) :
    Holds (Runs y) (storeHalfReg p u w rn rd rm st) := .unpredictable (.unpredictable (storeTransfer_runs h))

theorem swap_runs {y : Sys} {k : LoadKind} {w : Width} {rn rd rm : RegNum} {st : State} (h : Runs y st) :
    Holds (Runs y) (swap k w rn rd rm st) :=
  .unpredictable (.unpredictable (.orFault fun _ e => .next (h.loadValue.stored e).internal.finish))

theorem blockTransfer_runs {y : Sys} {load p u w : Bool} {rn : RegNum} {list : BitVec 16} {st : State} (h : Runs y st) :
    Holds (Runs y) (blockTransfer load p u w rn list st) :=
  .unpredictable (.ite (fun _ => h.loadMultiple) (fun _ => h.storeMultiple))

theorem blockTransferS_runs {y : Sys} {load p u w : Bool} {rn : RegNum} {list : BitVec 16} {st : State} (h : Runs y st) :
    Holds (Runs y) (blockTransferS load p u w rn list st) :=
  .unpredictable (.ite (fun _ => blockTransfer_runs h) (fun _ => .unpredictable
    (.ite (fun _ => h.loadMultiple) (fun _ => .unpredictable
      (.ite (fun _ => h.loadMultiple) (fun _ => h.storeMultiple))))))

theorem thumbAlu_runs {y : Sys} {op : DpOp} {rd : LowReg} {a b : Word} {sc : Bool} {st : State} (h : Runs y st) :
    Holds (Runs y) (thumbAlu op rd a b sc st) := .next (h.setReg.ite h).setCpsr.advance

theorem thumbAluReg_runs {y : Sys} {op : DpOp} {rs rd : LowReg} {st : State} (h : Runs y st) :
    Holds (Runs y) (thumbAluReg op rs rd st) := thumbAlu_runs h

theorem thumbShiftImm_runs {y : Sys} {k : ShiftKind} {n : BitVec 5} {rs rd : LowReg} {st : State} (h : Runs y st) :
    Holds (Runs y) (thumbShiftImm k n rs rd st) := thumbAlu_runs h

theorem thumbShiftReg_runs {y : Sys} {k : ShiftKind} {rs rd : LowReg} {st : State} (h : Runs y st) :
    Holds (Runs y) (thumbShiftReg k rs rd st) := thumbAlu_runs h.internal

theorem thumbMultiply_runs {y : Sys} {rs rd : LowReg} {st : State} (h : Runs y st) :
    Holds (Runs y) (thumbMultiply rs rd st) := multiply_runs h

theorem format5_runs {y : Sys} {h1 h2 : Bool} {st : State} {k : Result} (h : Holds (Runs y) k) :
    Holds (Runs y) (format5 h1 h2 st k) := .unpredictable h

theorem thumbLoad_runs {y : Sys} {k : LoadKind} {rd : LowReg} {a : Word} {st : State} (h : Runs y st) :
    Holds (Runs y) (thumbLoad k rd a st) := .next h.loadReg

theorem thumbStore_runs {y : Sys} {w : Width} {rd : LowReg} {a : Word} {st : State} (h : Runs y st) :
    Holds (Runs y) (thumbStore w rd a st) := h.storeReg

theorem thumbStoreMultiple_runs {y : Sys} {p u : Bool} {rn : RegNum} {list : BitVec 16} {st : State} (h : Runs y st) :
    Holds (Runs y) (thumbStoreMultiple p u rn list st) := h.storeMultiple

theorem thumbLoadMultiple_runs {y : Sys} {rn : RegNum} {list : BitVec 16} {st : State} (h : Runs y st) :
    Holds (Runs y) (thumbLoadMultiple rn list st) := h.loadMultiple

theorem thumbBranchCond_runs {y : Sys} {c : Cond} {o : BitVec 8} {st : State} (h : Runs y st) :
    Holds (Runs y) (thumbBranchCond c o st) := .whenPassed (fun _ => .next h.branch) (fun _ => h.advance)

/-- Every instruction that goes on has run charged accesses of the bus, and nothing else outside the CPU
(20_memory.md R162). -/
theorem exec_runs (i : Instr) (s : State) : Holds (Runs s.sys) (exec i s) := by
  have h0 := Runs.refl s
  cases i <;> dsimp only [exec,
    execAndShi, execAndShr, execAndImm, execEorShi, execEorShr, execEorImm, execSubShi, execSubShr, execSubImm,
    execRsbShi, execRsbShr, execRsbImm, execAddShi, execAddShr, execAddImm, execAdcShi, execAdcShr, execAdcImm,
    execSbcShi, execSbcShr, execSbcImm, execRscShi, execRscShr, execRscImm, execTstShi, execTstShr, execTstImm,
    execTeqShi, execTeqShr, execTeqImm, execCmpShi, execCmpShr, execCmpImm, execCmnShi, execCmnShr, execCmnImm,
    execOrrShi, execOrrShr, execOrrImm, execMovShi, execMovShr, execMovImm, execBicShi, execBicShr, execBicImm,
    execMvnShi, execMvnShr, execMvnImm, execMul, execMla, execUmull, execUmlal, execSmull, execSmlal, execSwp,
    execSwpb, execMrs, execMsrReg, execMsrImm, execBx, execStrhReg, execStrhImm, execLdrhReg, execLdrhImm,
    execLdrsbReg, execLdrsbImm, execLdrshReg, execLdrshImm, execStrImmPre, execStrImmPost, execStrtImm,
    execStrRegPre, execStrRegPost, execStrtReg, execLdrImmPre, execLdrImmPost, execLdrtImm, execLdrRegPre,
    execLdrRegPost, execLdrtReg, execStrbImmPre, execStrbImmPost, execStrbtImm, execStrbRegPre, execStrbRegPost,
    execStrbtReg, execLdrbImmPre, execLdrbImmPost, execLdrbtImm, execLdrbRegPre, execLdrbRegPost, execLdrbtReg,
    execStm, execLdm, execStmS, execLdmS, execB, execBl, execSwi, execLdcStc, execCdp, execMrcMcr,
    execUndefMul00001, execUndefMul00011, execUndefSwpX1, execUndefSwp10, execUndefLdrdStrd, execUndefMiscBx00,
    execUndefMiscBx10, execUndefMiscBx11, execUndefMisc01xx, execUndefMisc001x, execUndefMisc1xx0,
    execUndefMovStatus, execUndefMedia, execTLslImm, execTLsrImm, execTAsrImm, execTAddReg, execTSubReg,
    execTAddImm3, execTSubImm3, execTMovImm8, execTCmpImm8, execTAddImm8, execTSubImm8, execTAnd, execTEor,
    execTLslReg, execTLsrReg, execTAsrReg, execTAdc, execTSbc, execTRorReg, execTTst, execTNeg, execTCmpReg,
    execTCmn, execTOrr, execTMul, execTBic, execTMvn, execTAddHi, execTCmpHi, execTMovHi, execTBx, execTLdrPc,
    execTStrReg, execTStrbReg, execTLdrReg, execTLdrbReg, execTStrhReg, execTLdsbReg, execTLdrhReg, execTLdshReg,
    execTStrImm, execTLdrImm, execTStrbImm, execTLdrbImm, execTStrhImm, execTLdrhImm, execTStrSp, execTLdrSp,
    execTAddPc, execTAddSp, execTAddSpImm, execTPush, execTPop, execTStmia, execTLdmia, execTBcond0xxx,
    execTBcond10xx, execTBcond110x, execTSwi, execTB, execTBlPrefix, execTBlSuffix, execTUndef10110001,
    execTUndef1011001x, execTUndef1011011x, execTUndef101110xx, execTUndef1011111x, execTUndef11011110,
    execTUndef11101] <;>
    (try refine Holds.whenPassed (fun _ => ?_) (fun _ => h0.advance)) <;>
    with_reducible first
    | exact dpShiftImmediate_runs h0
    | exact dpImmediate_runs h0
    | exact dpShiftRegister_runs h0
    | exact multiplyShort_runs h0
    | exact multiplyLong_runs h0
    | exact readPsr_runs h0
    | exact writePsr_runs h0
    | exact writePsrRegister_runs h0
    | exact loadImm_runs h0
    | exact storeImm_runs h0
    | exact loadShifted_runs h0
    | exact storeShifted_runs h0
    | exact loadHalfImm_runs h0
    | exact loadHalfReg_runs h0
    | exact storeHalfImm_runs h0
    | exact storeHalfReg_runs h0
    | exact swap_runs h0
    | exact blockTransfer_runs h0
    | exact blockTransferS_runs h0
    | exact thumbAlu_runs h0
    | exact thumbAluReg_runs h0
    | exact thumbShiftImm_runs h0
    | exact thumbShiftReg_runs h0
    | exact thumbMultiply_runs h0
    | exact thumbBranchCond_runs h0
    | exact thumbLoad_runs h0
    | exact thumbStore_runs h0
    | exact thumbStoreMultiple_runs h0
    | exact thumbLoadMultiple_runs h0
    | exact format5_runs (.next h0.finish)
    | exact format5_runs (.next h0.setCpsr.advance)
    | exact .next h0.exchange
    | exact .unpredictable (.next h0.exchange)
    | exact .next h0.finish
    | exact .next h0.branch
    | exact .next h0.setReg.branch
    | exact .next h0.takeSwi
    | exact .next h0.takeUndefined

end Sys2Proof.Machine
end

