-- ==== Sys2Proof/Laws/Faults.lean ====
section
/-! SUPPORT. Where the bus and the devices stop: only a write that asks for STOP or arms DMA3 with video capture
(spec/60_exceptions.md R575, 61_timers_dma.md R622), in an instruction, in a DMA run or in an event. -/

namespace Sys2Proof.Machine

open Sys2Proof

/-- The two faults of an I/O write. -/
def BusFault (f : Fault) : Prop := f = .unmodelled .stop ∨ f = .unmodelled .dma3VideoCapture

/-- A computation that stops with a bus fault only. -/
def BusSafe {α : Type} (r : Except Fault α) : Prop := ∀ f, r = .error f → BusFault f

theorem BusSafe.ok {α : Type} (a : α) : BusSafe (.ok a : Except Fault α) := fun _ e => by cases e

theorem BusSafe.error {α : Type} {f : Fault} (h : BusFault f) : BusSafe (.error f : Except Fault α) :=
  fun _ e => by cases e; exact h

theorem BusSafe.bind {α β : Type} {r : Except Fault α} {k : α → Except Fault β} (h : BusSafe r) (g : ∀ a, BusSafe (k a)) :
    BusSafe (r >>= k) := by
  cases r with
  | error f => exact .error (h f rfl)
  | ok a => exact g a

theorem BusSafe.ofIte {α : Type} {b : Prop} [Decidable b] {x z : Except Fault α} (h : BusSafe x) (g : BusSafe z) :
    BusSafe (if b then x else z) := by split <;> assumption

/-! ## Writes -/

theorem writeDmaCntH_safe (y : Sys) (c : Fin 4) (new : Half) : BusSafe (y.writeDmaCntH c new) := by
  unfold Sys.writeDmaCntH
  simp only
  split
  · split
    · exact .ok _
    · split
      · exact .error (.inr rfl)
      · exact .ok _
    · exact .ok _
    · exact .ok _
  · split <;> exact .ok _

theorem writePostHalt_safe (y : Sys) (value lanes : Half) : BusSafe (y.writePostHalt value lanes) := by
  unfold Sys.writePostHalt
  simp only
  split
  · split
    · exact .error (.inl rfl)
    · exact .ok _
  · exact .ok _

theorem ioWrite16_safe (y : Sys) (r : IoReg) (value lanes : Half) : BusSafe (y.ioWrite16 r value lanes) := by
  cases r <;> simp only [Sys.ioWrite16]
  case dmaCntH c => exact writeDmaCntH_safe y c _
  case postflgHaltcnt => exact writePostHalt_safe y _ _
  all_goals exact .ok _

theorem ioWrite_safe (y : Sys) (w : Width) (o : Nat) (v : Word) : BusSafe (y.ioWrite w o v) := by
  cases w <;> simp only [Sys.ioWrite]
  · exact ioWrite16_safe y _ _ _
  · exact ioWrite16_safe y _ _ _
  · split
    · exact ioWrite16_safe _ _ _ _
    · rename_i f hf
      exact .error (ioWrite16_safe _ _ _ _ f hf)

/-- A write through the bus stops with a bus fault only (20_memory.md R107). -/
theorem memWrite_safe (y : Sys) (w : Width) (addr v : Word) : BusSafe (y.memWrite w addr v) := by
  unfold Sys.memWrite
  simp only
  split <;> first | exact .ok _ | (split <;> first | exact ioWrite_safe y w _ v | exact .ok _)

theorem store_safe (y : Sys) (k : Access) (w : Width) (a v : Word) : BusSafe (y.store k w a v) := by
  unfold Sys.store
  exact memWrite_safe _ _ _ _

/-! ## DMA runs and events -/

theorem dmaUnit_safe (c : Fin 4) (kind : Access) (w : Width) (fifo : Bool) (y : Sys) :
    BusSafe (y.dmaUnit c kind w fifo) := by
  unfold Sys.dmaUnit
  simp only
  split
  · exact .ok _
  · rename_i f hf
    exact .error (memWrite_safe _ _ _ _ f hf)

theorem dmaUnits_safe (c : Fin 4) (w : Width) (fifo : Bool) (n : Nat) :
    ∀ (k : Access) (cost : Nat) (y : Sys), BusSafe (Sys.dmaUnits c w fifo n k cost y) := by
  induction n with
  | zero => intro k cost y; exact .ok _
  | succ n ih =>
    intro k cost y
    unfold Sys.dmaUnits
    split
    · exact ih _ _ _
    · rename_i f hf
      exact .error (dmaUnit_safe _ _ _ _ _ f hf)

theorem runDma_safe (c : Fin 4) (y : Sys) : BusSafe (y.runDma c) := by
  unfold Sys.runDma
  simp only
  split
  · rename_i f hf
    exact .error (dmaUnits_safe _ _ _ _ _ _ _ f hf)
  · exact .ok _

theorem runDmaIf_safe (t : DmaTiming) (c : Fin 4) (y : Sys) : BusSafe (y.runDmaIf t c) :=
  .ofIte (runDma_safe c y) (.ok _)

theorem dmaTurn_safe (b : Bool) (c : Fin 4) (y : Sys) : BusSafe (y.dmaTurn b c) := .ofIte (runDma_safe c y) (.ok _)

theorem dmaTrigger_safe (t : DmaTiming) (y : Sys) : BusSafe (y.dmaTrigger t) :=
  .bind (dmaTurn_safe _ _ _) fun _ => .bind (dmaTurn_safe _ _ _) fun _ => .bind (dmaTurn_safe _ _ _) fun _ =>
    dmaTurn_safe _ _ _

theorem dmaEvent_safe (c : Fin 4) (fuel : Nat) : ∀ y : Sys, BusSafe (y.dmaEvent c fuel) := by
  induction fuel with
  | zero => intro y; exact .ok _
  | succ n ih =>
    intro y
    unfold Sys.dmaEvent
    split
    · exact runDmaIf_safe _ _ _
    · split
      · exact ih _
      · rename_i f hf
        exact .error (runDmaIf_safe _ _ _ f hf)

theorem fifoRequest_safe (x : FifoName) (y : Sys) : BusSafe (y.fifoRequest x) :=
  .ofIte (runDma_safe _ _) (.ofIte (runDma_safe _ _) (.ok _))

theorem fifoTick_safe (x : FifoName) (y : Sys) : BusSafe (y.fifoTick x) := .ofIte (fifoRequest_safe _ _) (.ok _)

theorem tickFifos_safe (i : Fin 4) (y : Sys) : BusSafe (y.tickFifos i) := by
  have last (z : Sys) : BusSafe (if z.soundcntH.getLsbD 14 == (i.val == 1) then z.fifoTick .b else .ok z) :=
    .ofIte (fifoTick_safe _ _) (.ok _)
  exact .ofIte (.ok _) (.ofIte (.bind (fifoTick_safe _ _) last) (last y))

theorem timerOverflow_safe (t fuel : Nat) : ∀ (i : Fin 4) (y : Sys), BusSafe (Sys.timerOverflow t fuel i y) := by
  induction fuel with
  | zero =>
    intro i y
    unfold Sys.timerOverflow
    split
    · rename_i f hf
      exact .error (tickFifos_safe _ _ f hf)
    · exact .ok _
  | succ n ih =>
    intro i y
    unfold Sys.timerOverflow
    split
    · rename_i f hf
      exact .error (tickFifos_safe _ _ f hf)
    · exact .ofIte (.ofIte (.ofIte (ih _ _) (.ok _)) (.ok _)) (.ok _)

theorem hdrawEnd_safe (t : Nat) (y : Sys) : BusSafe (y.hdrawEnd t) := by
  unfold Sys.hdrawEnd
  split
  · exact .ok _
  · rename_i f hf
    exact .error (BusSafe.ofIte (dmaTrigger_safe _ _) (.ok _) f hf)

theorem vblankStart_safe (y : Sys) : BusSafe y.vblankStart := by
  unfold Sys.vblankStart
  split
  · exact .ok _
  · rename_i f hf
    exact .error (dmaTrigger_safe _ _ f hf)

theorem lineEnd_safe (t : Nat) (y : Sys) : BusSafe (y.lineEnd t) := by
  unfold Sys.lineEnd
  split
  · rename_i f hf
    exact .error (BusSafe.ofIte (vblankStart_safe _) (.ok _) f hf)
  · exact .ok _

theorem handleEvent_safe (e : Event) (y : Sys) : BusSafe (y.handleEvent e) := by
  unfold Sys.handleEvent
  split
  · exact hdrawEnd_safe _ _
  · exact lineEnd_safe _ _
  · exact timerOverflow_safe _ _ _ _
  · exact dmaEvent_safe _ _ _
  · exact fifoRequest_safe _ _
  · exact .ok _
  · exact .ok _

theorem dispatchOne_safe {y : Sys} {r : Except Fault Sys} (h : y.dispatchOne = some r) : BusSafe r := by
  rcases Sys.dispatchOne_cases h with ⟨c, -, rfl⟩ | ⟨e, rest, -, -, rfl⟩
  · exact dmaEvent_safe _ _ _
  · exact handleEvent_safe _ _

/-- The dispatch of the due events stops with a bus fault only (61_timers_dma.md R605). -/
theorem dispatchDue_safe (fuel : Nat) : ∀ y : Sys, BusSafe (y.dispatchDue fuel) := by
  induction fuel with
  | zero => intro y; exact .ok _
  | succ n ih =>
    intro y
    unfold Sys.dispatchDue
    split
    · exact .ok _
    · exact ih _
    · rename_i f hf
      exact .error (dispatchOne_safe hf f rfl)

end Sys2Proof.Machine
end

