-- ==== Sys2Proof/Laws/Ops.lean ====
section
/-! SUPPORT. What the shared operations answer, case by case, in the words of Safety.lean. -/

namespace Sys2Proof.Machine

open Sys2Proof

/-! ## Conditions and UNPREDICTABLE cases -/

theorem State.whenPassed_pass {s : State} {c : Cond} {k : State → Result} (h : condHolds c s.cpu.cpsr = true) :
    s.whenPassed c k = k s := by simp [State.whenPassed, h]

theorem State.whenPassed_fail {s : State} {c : Cond} {k : State → Result} (h : condHolds c s.cpu.cpsr = false) :
    s.whenPassed c k = .next s.advance := by simp [State.whenPassed, h]

/-- A case that does not hold, or that the policy emulates, has no effect (00_scope.md R12). -/
theorem State.unpredictable_ok {s : State} {c : UnpredCase} {bad : Bool} {k : Result}
    (h : s.strict = true → bad = false) : s.unpredictable c bad k = k := by
  unfold State.unpredictable
  cases hs : s.strict <;> simp_all

/-- A case that holds under the policy `fault` (00_scope.md R12). -/
theorem State.unpredictable_fault {s : State} {c : UnpredCase} {bad : Bool} {k : Result} (hs : s.strict = true)
    (hb : bad = true) : s.unpredictable c bad k = .fault (.unpredictable c) := by
  simp [State.unpredictable, hs, hb]

theorem State.unpredictableCase_ok {s : State} {c : Option UnpredCase} {bad : Bool} {k : Result}
    (h : s.strict = true → c ≠ none → bad = false) : s.unpredictableCase c bad k = k := by
  cases c
  · rfl
  · exact State.unpredictable_ok fun hs => h hs (by simp)

@[simp] theorem orFault_ok {α : Type} (a : α) (k : α → Result) : orFault (.ok a) k = k a := rfl
@[simp] theorem orFault_error {α : Type} (f : Fault) (k : α → Result) : orFault (.error f) k = .fault f := rfl

/-! ## Registers and the program counter -/

theorem State.setReg_of_ne (s : State) (r : RegNum) (v : Word) (h : r ≠ 15#4) :
    s.setReg r v = { s with cpu := { s.cpu with regs := s.cpu.regs.set (physIndex s.cpu.bank r) v } } := by
  simp [State.setReg, Cpu.setBankReg, h]

@[simp] theorem State.setReg_pc (s : State) (v : Word) : s.setReg 15#4 v = s := by simp [State.setReg]

/-- A write of a register other than R15, and the advance. -/
theorem State.setReg_advance (s : State) (r : RegNum) (v : Word) (h : r ≠ 15#4) :
    (s.setReg r v).advance = { s with cpu := s.cpu.wrote r v s.cpu.cpsr } := by
  simp [State.setReg_of_ne s r v h, State.advance, Cpu.wrote]

theorem State.advance_eq (s : State) : s.advance = { s with cpu := s.cpu.flagged s.cpu.cpsr } := rfl

theorem State.setCpsr_advance (s : State) (p : Psr) (h : p.t = s.cpu.cpsr.t) :
    (s.setCpsr p).advance = { s with cpu := s.cpu.flagged p } := by
  simp [State.setCpsr, State.advance, Cpu.flagged, h]

theorem State.finish_of_ne (s : State) (rd : RegNum) (v : Word) (h : rd ≠ 15#4) :
    s.finish rd v = { s with cpu := s.cpu.wrote rd v s.cpu.cpsr } := by
  rw [State.finish, if_neg h, State.setReg_advance s rd v h]

@[simp] theorem State.finish_pc (s : State) (v : Word) : s.finish 15#4 v = s.branch v := by simp [State.finish]

theorem lowReg_ne_pc (r : LowReg) : lowReg r ≠ 15#4 := by revert r; decide

theorem Psr.setNzcv_t (p : Psr) (r : AluResult) : (p.setNzcv r).t = p.t := rfl

theorem State.writeBack_eq (s : State) (wb : Bool) (rn : RegNum) (moved : Word) :
    s.writeBack wb rn moved = { s with cpu := s.cpu.based (wb && rn != 15#4) rn moved } := by
  unfold State.writeBack Cpu.based
  by_cases h : rn = 15#4
  · subst h; cases wb <;> simp
  · cases wb <;> simp [h, State.setReg_of_ne]

/-! ## Data processing -/

/-- Data processing that does not write R15 (40_arm_dataproc.md R274). -/
theorem dataProcessing_of_ne (op : DpOp) (s : Bool) (rd : RegNum) (a b : Word) (sc : Bool) (st : State)
    (h : dpWritesRd op = true → rd ≠ 15#4) :
    dataProcessing op s rd a b sc st =
      (let r := dpCompute op a b st.cpu.cpsr.c st.cpu.cpsr.v sc
       let p := if s then st.cpu.cpsr.setNzcv r else st.cpu.cpsr
       .next { st with cpu := if dpWritesRd op then st.cpu.wrote rd r.result p else st.cpu.flagged p }) := by
  unfold dataProcessing
  cases hw : dpWritesRd op
  · cases s <;> simp [State.setCpsr, State.advance, Cpu.flagged, Psr.setNzcv_t]
  · have hr := h hw
    cases s <;> simp [State.setReg_of_ne, State.setCpsr, State.advance, Cpu.wrote, Psr.setNzcv_t, hr]

/-- Data processing that writes R15 without the flags is a branch (40_arm_dataproc.md R274). -/
theorem dataProcessing_branch (op : DpOp) (a b : Word) (sc : Bool) (st : State) (h : dpWritesRd op = true) :
    dataProcessing op false 15#4 a b sc st =
      .next (st.branch (dpCompute op a b st.cpu.cpsr.c st.cpu.cpsr.v sc).result) := by
  simp [dataProcessing, h]

/-- Data processing that writes R15 with the flags returns from an exception (40_arm_dataproc.md R275). -/
theorem dataProcessing_return (op : DpOp) (a b : Word) (sc : Bool) (st : State) (h : dpWritesRd op = true) :
    dataProcessing op true 15#4 a b sc st =
      orFault st.restoreCpsr
        (fun u => .next (u.branch (dpCompute op a b st.cpu.cpsr.c st.cpu.cpsr.v sc).result)) := by
  simp [dataProcessing, h]

/-! ## Transfers -/

/-- A load (43_arm_loadstore.md R353): the base is written back before `Rd`. -/
theorem State.loadReg_eq (k : LoadKind) (a : Word) (wb : Bool) (rn : RegNum) (moved : Word) (rd : RegNum) (s : State) :
    s.loadReg k a wb rn moved rd =
      (let r := s.sys.load .nonseq (k.width a) a
       let cpu := s.cpu.based (wb && rn != 15#4) rn moved
       if rd = 15#4 then State.branch (k.extract a r.1) { cpu := cpu, sys := r.2.paid 1 }
       else { cpu := cpu.wrote rd (k.extract a r.1) s.cpu.cpsr, sys := r.2.paid 1 }) := by
  have hb : (s.cpu.based (wb && rn != 15#4) rn moved).cpsr = s.cpu.cpsr := by unfold Cpu.based; split <;> rfl
  unfold State.loadReg
  simp only [State.writeBack_eq]
  by_cases h : rd = 15#4
  · subst h
    simp [State.finish_pc, State.internal, State.withSys, State.loadValue, Sys.charge, Sys.paid]
  · simp [State.finish_of_ne _ _ _ h, h, State.internal, State.withSys, State.loadValue, Sys.charge, Sys.paid, hb]

/-- A store that the bus completes (43_arm_loadstore.md R353): the base is written back after it. -/
theorem State.storeReg_ok (w : Width) (a v : Word) (wb : Bool) (rn : RegNum) (moved : Word) (s : State) (y : Sys)
    (h : s.sys.store .nonseq w a v = .ok y) :
    s.storeReg w a v wb rn moved =
      .next { cpu := { s.cpu.based (wb && rn != 15#4) rn moved with pc := s.cpu.pc + widthOf s.cpu.cpsr.t }, sys := y } := by
  unfold State.storeReg
  rw [h, orFault_ok, State.writeBack_eq]
  have hb : (s.cpu.based (wb && rn != 15#4) rn moved).cpsr = s.cpu.cpsr := by unfold Cpu.based; split <;> rfl
  have hp : (s.cpu.based (wb && rn != 15#4) rn moved).pc = s.cpu.pc := by unfold Cpu.based; split <;> rfl
  simp [State.advance, State.withSys, hb, hp]

/-- A store the bus does not stop has a system after it. -/
theorem Sys.store_of_not_stops (y : Sys) (w : Width) (a v : Word) (h : y.storeStops w a v = false) :
    ∃ z, y.store .nonseq w a v = .ok z := by
  unfold Sys.storeStops at h
  split at h
  · exact ⟨_, ‹_›⟩
  · simp at h

end Sys2Proof.Machine
end

