-- ==== Sys2Proof/Laws/Frames.lean ====
section
/-! SUPPORT. What the shared operations change in the CPU: `Frame e l s t` says that the registers of `t` are those of `s`
but for the places in `l`, and its status registers but for what `e` allows.  One lemma per operation. -/

namespace Sys2Proof.Machine

open Sys2Proof

/-- The CPU of `t` is that of `s` but for the status bits of `e`, the registers of `l`, the program counter and the
pipeline. -/
structure Frame (e : Effects) (l : List (Bank × RegNum)) (s t : State) : Prop where
  flags : e.flags = false → t.cpu.cpsr.n = s.cpu.cpsr.n ∧ t.cpu.cpsr.z = s.cpu.cpsr.z ∧ t.cpu.cpsr.c = s.cpu.cpsr.c ∧
    t.cpu.cpsr.v = s.cpu.cpsr.v
  thumb : e.thumb = false → t.cpu.cpsr.t = s.cpu.cpsr.t
  mode  : e.mode = false → t.cpu.cpsr.m = s.cpu.cpsr.m ∧ t.cpu.cpsr.i = s.cpu.cpsr.i ∧ t.cpu.cpsr.f = s.cpu.cpsr.f
  spsr  : e.spsr = false → t.cpu.spsr = s.cpu.spsr
  regs  : ∀ k : Fin 30, (∀ x ∈ l, x.2 = 15#4 ∨ k ≠ physIndex x.1 x.2) → t.cpu.regs[k] = s.cpu.regs[k]

theorem Frame.refl (e : Effects) (l : List (Bank × RegNum)) (s : State) : Frame e l s s :=
  ⟨fun _ => ⟨rfl, rfl, rfl, rfl⟩, fun _ => rfl, fun _ => ⟨rfl, rfl, rfl⟩, fun _ => rfl, fun _ _ => rfl⟩

theorem State.storeBlock_cpu {b : Bank} {kind : Access} {a : Word} {rs : List RegNum} {t u : State}
    (hu : t.storeBlock b kind a rs = .ok u) : u.cpu = t.cpu := by
  induction rs generalizing kind a t with
  | nil => cases hu; rfl
  | cons r rs ih =>
    simp only [State.storeBlock] at hu
    split at hu
    · have h := ih hu
      exact h
    · cases hu

section
variable {e : Effects} {l : List (Bank × RegNum)} {s t u : State}

/-- An operation that keeps the registers, the CPSR and the SPSRs. -/
theorem Frame.same (h : Frame e l s t) (hr : u.cpu.regs = t.cpu.regs := by rfl) (hc : u.cpu.cpsr = t.cpu.cpsr := by rfl)
    (hs : u.cpu.spsr = t.cpu.spsr := by rfl) : Frame e l s u :=
  ⟨by rw [hc]; exact h.flags, by rw [hc]; exact h.thumb, by rw [hc]; exact h.mode, by rw [hs]; exact h.spsr,
    by rw [hr]; exact h.regs⟩

theorem Frame.advance (h : Frame e l s t) : Frame e l s t.advance := h.same

theorem Frame.internal {n : Nat} (h : Frame e l s t) : Frame e l s (t.internal n) := h.same

theorem Frame.withSys {y : Sys} (h : Frame e l s t) : Frame e l s (t.withSys y) := h.same

theorem Frame.branch {a : Word} (h : Frame e l s t) : Frame e l s (t.branch a) := h.same

theorem Frame.ite {c : Prop} [Decidable c] (h : c → Frame e l s t) (h' : ¬ c → Frame e l s u) :
    Frame e l s (if c then t else u) := by
  split
  · exact h ‹_›
  · exact h' ‹_›

theorem Frame.setRegIn {b : Bank} {r : RegNum} {v : Word} (h : Frame e l s t) (hm : r = 15#4 ∨ (b, r) ∈ l) :
    Frame e l s (t.setRegIn b r v) :=
  ⟨by simpa using h.flags, by simpa using h.thumb, by simpa using h.mode, by simpa using h.spsr, fun k hk => by
    rw [← h.regs k hk]
    rcases hm with rfl | hm
    · simp [State.setRegIn]
    · rcases hk _ hm with h15 | hne
      · simp only at h15; subst h15; simp [State.setRegIn]
      · exact Cpu.setBankReg_regs_other _ _ _ _ _ hne⟩

theorem Frame.setReg {r : RegNum} {v : Word} (h : Frame e l s t) (hm : r = 15#4 ∨ (t.cpu.bank, r) ∈ l) :
    Frame e l s (t.setReg r v) := h.setRegIn hm

/-- The CPSR replaced by one that the effects allow. -/
theorem Frame.setCpsr {p : Psr} (h : Frame e l s t)
    (hf : e.flags = false → p.n = t.cpu.cpsr.n ∧ p.z = t.cpu.cpsr.z ∧ p.c = t.cpu.cpsr.c ∧ p.v = t.cpu.cpsr.v)
    (ht : e.thumb = false → p.t = t.cpu.cpsr.t)
    (hm : e.mode = false → p.m = t.cpu.cpsr.m ∧ p.i = t.cpu.cpsr.i ∧ p.f = t.cpu.cpsr.f) :
    Frame e l s (t.setCpsr p) := by
  refine ⟨fun he => ?_, fun he => (ht he).trans (h.thumb he), fun he => ?_, h.spsr, h.regs⟩
  · obtain ⟨a, b, c, d⟩ := hf he
    obtain ⟨a', b', c', d'⟩ := h.flags he
    exact ⟨a.trans a', b.trans b', c.trans c', d.trans d'⟩
  · obtain ⟨a, b, c⟩ := hm he
    obtain ⟨a', b', c'⟩ := h.mode he
    exact ⟨a.trans a', b.trans b', c.trans c'⟩

/-- New flags N, Z, C and V. -/
theorem Frame.setNzcv {r : AluResult} (h : Frame e l s t) (hf : e.flags = true) :
    Frame e l s (t.setCpsr (t.cpu.cpsr.setNzcv r)) :=
  h.setCpsr (by simp [hf]) (fun _ => rfl) (fun _ => ⟨rfl, rfl, rfl⟩)

theorem Frame.finish {rd : RegNum} {v : Word} (h : Frame e l s t) (hm : rd = 15#4 ∨ (t.cpu.bank, rd) ∈ l) :
    Frame e l s (t.finish rd v) := .ite (fun _ => h.branch) (fun _ => (h.setReg hm).advance)

theorem Frame.writeBack {wb : Bool} {rn : RegNum} {moved : Word} (h : Frame e l s t)
    (hm : wb = true → rn = 15#4 ∨ (t.cpu.bank, rn) ∈ l) : Frame e l s (t.writeBack wb rn moved) :=
  .ite (fun hw => h.setReg (hm hw)) (fun _ => h)

theorem State.writeBack_bank (wb : Bool) (rn : RegNum) (moved : Word) (t : State) :
    (t.writeBack wb rn moved).cpu.bank = t.cpu.bank := by
  unfold State.writeBack
  split <;> simp

theorem Frame.loadReg {k : LoadKind} {a : Word} {wb : Bool} {rn : RegNum} {moved : Word} {rd : RegNum}
    (h : Frame e l s t) (hd : rd = 15#4 ∨ (t.cpu.bank, rd) ∈ l) (hn : wb = true → rn = 15#4 ∨ (t.cpu.bank, rn) ∈ l) :
    Frame e l s (t.loadReg k a wb rn moved rd) := by
  have h1 : Frame e l s (((t.loadValue k a).2.writeBack wb rn moved).internal 1) :=
    ((h.withSys (y := (t.loadValue k a).2.sys)).writeBack hn).internal
  refine h1.finish ?_
  rw [State.internal_bank, State.writeBack_bank]
  exact hd

theorem Frame.storeReg {w : Width} {a v : Word} {wb : Bool} {rn : RegNum} {moved : Word} (h : Frame e l s t)
    (hn : wb = true → rn = 15#4 ∨ (t.cpu.bank, rn) ∈ l) : Holds (Frame e l s) (t.storeReg w a v wb rn moved) :=
  .orFault fun y _ => .next ((h.withSys (y := y)).writeBack hn).advance

theorem Frame.storeBlock {b : Bank} {kind : Access} {a : Word} {rs : List RegNum} (h : Frame e l s t)
    (hu : t.storeBlock b kind a rs = .ok u) : Frame e l s u := by
  induction rs generalizing kind a t with
  | nil => cases hu; exact h
  | cons r rs ih =>
    simp only [State.storeBlock] at hu
    split at hu
    · exact ih h.withSys hu
    · cases hu

theorem Frame.storeMultiple {b : Bank} {plan : BlockPlan} {wb : Bool} {rn : RegNum} (h : Frame e l s t)
    (hn : wb = true → rn = 15#4 ∨ (t.cpu.bank, rn) ∈ l) : Holds (Frame e l s) (t.storeMultiple b plan wb rn) := by
  unfold State.storeMultiple
  split
  · exact .next h.advance
  · refine .orFault fun v hv => .orFault fun w hw => .next (Frame.storeBlock ?_ hw).advance
    exact (h.storeBlock hv).writeBack (by rw [State.storeBlock_cpu hv]; exact hn)

theorem Sys.loadBlock_regs (rs : List RegNum) (kind : Access) (a : Word) (y : Sys) :
    ((y.loadBlock kind a rs).1.map (fun x => x.1)) = rs := by
  induction rs generalizing kind a y with
  | nil => rfl
  | cons r rs ih => simp [Sys.loadBlock, ih]

theorem Frame.writeLoaded {b : Bank} {rs : List (RegNum × Word)} (h : Frame e l s t)
    (hm : ∀ x ∈ rs, x.1 = 15#4 ∨ (b, x.1) ∈ l) : Frame e l s (t.writeLoaded b rs) := by
  induction rs generalizing t with
  | nil => exact h
  | cons x rs ih => exact ih (h.setRegIn (hm x (by simp))) (fun y hy => hm y (by simp [hy]))

/-- Loaded registers written leave the status registers alone. -/
theorem State.writeLoaded_psr (b : Bank) (l : List (RegNum × Word)) (s : State) :
    (s.writeLoaded b l).cpu.spsr = s.cpu.spsr ∧ (s.writeLoaded b l).cpu.cpsr = s.cpu.cpsr := by
  induction l generalizing s with
  | nil => exact ⟨rfl, rfl⟩
  | cons x l ih =>
    obtain ⟨r, v⟩ := x
    simp only [State.writeLoaded, (ih _).1, (ih _).2, State.setRegIn_cpu_spsr, State.setRegIn_cpu_cpsr, and_self]

/-- The SPSR a load-multiple restores from is the one before it. -/
theorem State.loadedSpsr (b : Bank) (y : Sys) (wb : Bool) (rn : RegNum) (moved : Word) (l : List (RegNum × Word))
    (s : State) :
    ((((s.withSys y).writeBack wb rn moved).writeLoaded b l).internal 1).cpu.currentSpsr = s.cpu.currentSpsr := by
  unfold Cpu.currentSpsr Cpu.bank
  simp only [State.internal_cpu, (State.writeLoaded_psr _ _ _).1, (State.writeLoaded_psr _ _ _).2,
    State.writeBack_cpu_spsr, State.writeBack_cpu_cpsr, State.withSys_cpu]

/-- The restore in a mode that has an SPSR (60_exceptions.md R557). -/
theorem State.restoreCpsr_some {s : State} {q : Psr} (h : s.cpu.currentSpsr = some q) :
    s.restoreCpsr = if modeValid q.m then .ok (s.setCpsr q) else .error (.invalidMode q.m) := by
  unfold State.restoreCpsr
  rw [h]

/-- A load-multiple goes on, unless it restores an invalid mode or has no SPSR to restore from (R370). -/
theorem State.loadMultiple_next (b : Bank) (plan : BlockPlan) (wb : Bool) (rn : RegNum) (restore : Bool) (s : State)
    (h : restore = true → ∃ q, s.cpu.currentSpsr = some q ∧ modeValid q.m = true) :
    ∃ t, s.loadMultiple b plan wb rn restore = .next t := by
  unfold State.loadMultiple
  simp only
  split
  · exact ⟨_, rfl⟩
  · cases restore with
    | false => exact ⟨_, rfl⟩
    | true =>
      obtain ⟨q, hq, hm⟩ := h rfl
      simp only [if_true]
      rw [State.restoreCpsr_some ((State.loadedSpsr _ _ _ _ _ _ _).trans hq), if_pos hm]
      exact ⟨_, rfl⟩

/-- A load-multiple that loads R15 and restores an invalid mode stops (R370, 60_exceptions.md R557). -/
theorem State.loadMultiple_invalidMode (b : Bank) (plan : BlockPlan) (wb : Bool) (rn : RegNum) (s : State) (q : Psr)
    (hq : s.cpu.currentSpsr = some q) (hm : modeValid q.m = false) (hp : 15#4 ∈ plan.regs) :
    s.loadMultiple b plan wb rn true = .fault (.invalidMode q.m) := by
  unfold State.loadMultiple
  simp only
  split
  · rename_i hn
    rw [← Sys.loadBlock_regs plan.regs .nonseq plan.start s.sys] at hp
    obtain ⟨x, hx, h15⟩ := List.mem_map.1 hp
    simp only [loadedPc, Option.map_eq_none_iff, List.find?_eq_none] at hn
    exact absurd (by simp [h15]) (hn x hx)
  · simp only [if_true]
    rw [State.restoreCpsr_some ((State.loadedSpsr _ _ _ _ _ _ _).trans hq), if_neg (by simp [hm])]
    rfl

/-- The return from an exception (60_exceptions.md R557). -/
theorem Frame.restoreCpsr (h : Frame e l s t) (hu : t.restoreCpsr = .ok u)
    (he : e.flags = true ∧ e.thumb = true ∧ e.mode = true) : Frame e l s u := by
  unfold State.restoreCpsr at hu
  split at hu <;> split at hu <;> cases hu
  · exact h.setCpsr (by simp [he.1]) (by simp [he.2.1]) (by simp [he.2.2])
  · exact h

/-- A load-multiple (43_arm_loadstore.md R367, R370). -/
theorem Frame.loadMultiple {b : Bank} {plan : BlockPlan} {wb : Bool} {rn : RegNum} {restore : Bool} (h : Frame e l s t)
    (hn : wb = true → rn = 15#4 ∨ (t.cpu.bank, rn) ∈ l) (hl : ∀ r ∈ plan.regs, r = 15#4 ∨ (b, r) ∈ l)
    (he : restore = true → e.flags = true ∧ e.thumb = true ∧ e.mode = true) :
    Holds (Frame e l s) (t.loadMultiple b plan wb rn restore) := by
  have h2 : Frame e l s (((t.withSys (t.sys.loadBlock .nonseq plan.start plan.regs).2).writeBack wb rn plan.moved)) :=
    h.withSys.writeBack hn
  have h3 := (h2.writeLoaded (b := b) (rs := (t.sys.loadBlock .nonseq plan.start plan.regs).1) (fun x hx => hl x.1 (by
    have := Sys.loadBlock_regs plan.regs .nonseq plan.start t.sys
    rw [← this]
    exact List.mem_map_of_mem hx))).internal (n := 1)
  unfold State.loadMultiple
  dsimp only
  split
  · exact .next h3.advance
  · exact .ite (fun hr => .orFault fun _ hu => .next (h3.restoreCpsr hu (he hr)).branch) (fun _ => .next h3.branch)

/-- The BX branch (42_arm_psr_branch.md R337). -/
theorem Frame.exchange {a : Word} (h : Frame e l s t) (he : e.thumb = true) : Frame e l s (t.exchange a) :=
  Frame.branch (h.setCpsr (fun _ => ⟨rfl, rfl, rfl, rfl⟩) (by simp [he]) (fun _ => ⟨rfl, rfl, rfl⟩))

/-- Taking an exception (60_exceptions.md R551): R14 and the SPSR of the new mode, and the CPSR but for the flags. -/
theorem Frame.enterException {x : Exception} {ret : Word} (h : Frame e l s t)
    (he : e.thumb = true ∧ e.mode = true ∧ e.spsr = true) (hm : (x.mode.bank, 14#4) ∈ l) :
    Frame e l s (t.enterException x ret) := by
  have h1 : Frame e l s (t.setCpsr (x.cpsr t.cpu.cpsr)) :=
    h.setCpsr (fun _ => ⟨rfl, rfl, rfl, rfl⟩) (by simp [he.1]) (by simp [he.2.1])
  have h2 := h1.setRegIn (b := x.mode.bank) (r := 14#4) (v := ret) (.inr hm)
  unfold State.enterException
  refine Frame.branch ⟨?_, ?_, ?_, by simp [he.2.2], ?_⟩
  · simpa using h2.flags
  · simpa using h2.thumb
  · simpa using h2.mode
  · intro k hk
    simp only [Cpu.setCurrentSpsr_regs]
    exact h2.regs k hk

/-! ## The families -/

/-- Data processing (40_arm_dataproc.md R274, R275). -/
theorem Frame.dataProcessing {op : DpOp} {w : Bool} {rd : RegNum} {a b : Word} {sc : Bool} (h : Frame e l s t)
    (hm : dpWritesRd op = true → rd = 15#4 ∨ (t.cpu.bank, rd) ∈ l)
    (he : w = true → e.flags = true)
    (hr : w = true → dpWritesRd op = true → rd = 15#4 → e.flags = true ∧ e.thumb = true ∧ e.mode = true) :
    Holds (Frame e l s) (dataProcessing op w rd a b sc t) := by
  unfold Sys2Proof.Machine.dataProcessing
  refine .ite (fun hc => .ite (fun hw => .orFault fun _ hu => .next (h.restoreCpsr hu ?_).branch)
    (fun _ => .next h.branch)) (fun _ => .next (Frame.advance ?_))
  · simp only [Bool.and_eq_true, beq_iff_eq] at hc
    exact hr hw hc.1 hc.2
  · have h1 : ∀ v, Frame e l s (if dpWritesRd op = true then t.setReg rd v else t) := fun v =>
      .ite (fun hw => h.setReg (hm hw)) (fun _ => h)
    exact .ite (fun hw => (h1 _).setNzcv (he hw)) (fun _ => h1 _)

theorem Frame.dpShiftRegister {op : DpOp} {w : Bool} {rn rd rs : RegNum} {k : ShiftKind} {rm : RegNum}
    (h : Frame e l s t) (hm : dpWritesRd op = true → rd = 15#4 ∨ (t.cpu.bank, rd) ∈ l)
    (he : w = true → e.flags = true)
    (hr : w = true → dpWritesRd op = true → rd = 15#4 → e.flags = true ∧ e.thumb = true ∧ e.mode = true) :
    Holds (Frame e l s) (dpShiftRegister op w rn rd rs k rm t) :=
  .unpredictable (.unpredictable (h.internal.dataProcessing hm he hr))

/-- MUL, MLA and the long multiplies write N and Z only (41_arm_multiply.md R311, R312). -/
theorem Frame.multiply {w : Bool} {rd rs rm : RegNum} {addend : Word} {extra : Nat} (h : Frame e l s t)
    (hm : rd = 15#4 ∨ (t.cpu.bank, rd) ∈ l) (he : w = true → e.flags = true) :
    Holds (Frame e l s) (multiply w rd rs rm addend extra t) := by
  refine .next (Frame.finish (.ite (fun hw => h.internal.setCpsr (by simp [he hw]) (fun _ => rfl) (fun _ => ⟨rfl, rfl, rfl⟩))
    (fun _ => h.internal)) ?_)
  split <;> exact hm

theorem Frame.multiplyShort {w : Bool} {rd rs rm : RegNum} {acc : Option RegNum} (h : Frame e l s t)
    (hm : rd = 15#4 ∨ (t.cpu.bank, rd) ∈ l) (he : w = true → e.flags = true) :
    Holds (Frame e l s) (multiplyShort w rd rs rm acc t) := by
  refine .unpredictable (.unpredictable ?_)
  cases acc <;> exact h.multiply hm he

theorem Frame.finishLong {rdHi rdLo : RegNum} {hi lo : Word} (h : Frame e l s t)
    (h1 : rdHi = 15#4 ∨ (t.cpu.bank, rdHi) ∈ l) (h2 : rdLo = 15#4 ∨ (t.cpu.bank, rdLo) ∈ l) :
    Frame e l s (t.finishLong rdHi rdLo hi lo) := by
  have h3 : Frame e l s ((t.setReg rdLo lo).setReg rdHi hi) := (h.setReg h2).setReg (by simpa using h1)
  exact .ite (fun _ => h3.branch) (fun _ => .ite (fun _ => h3.branch) (fun _ => h3.advance))

theorem Frame.multiplyLong {signed acc w : Bool} {rdHi rdLo rs rm : RegNum} (h : Frame e l s t)
    (h1 : rdHi = 15#4 ∨ (t.cpu.bank, rdHi) ∈ l) (h2 : rdLo = 15#4 ∨ (t.cpu.bank, rdLo) ∈ l)
    (he : w = true → e.flags = true) : Holds (Frame e l s) (multiplyLong signed acc w rdHi rdLo rs rm t) := by
  refine .unpredictable (.unpredictable (.unpredictable (.next (Frame.finishLong
    (.ite (fun hw => h.internal.setCpsr (by simp [he hw]) (fun _ => rfl) (fun _ => ⟨rfl, rfl, rfl⟩)) (fun _ => h.internal))
    ?_ ?_))))
  · split
    · exact h1
    · exact h1
  · split
    · exact h2
    · exact h2

theorem maskedFlags_rest (mask : BitVec 4) (v : Word) (p : Psr) :
    (maskedFlags mask v p).t = p.t ∧ (maskedFlags mask v p).m = p.m ∧ (maskedFlags mask v p).i = p.i ∧
      (maskedFlags mask v p).f = p.f := by
  unfold maskedFlags
  split <;> exact ⟨rfl, rfl, rfl, rfl⟩

/-- MSR (42_arm_psr_branch.md R331). -/
theorem Frame.writePsr {r : Bool} {mask : BitVec 4} {v : Word} (h : Frame e l s t)
    (hf : r = false → mask.getLsbD 3 = true → e.flags = true)
    (hm : r = false → mask.getLsbD 0 = true → t.cpu.userMode = false → e.mode = true)
    (hs : r = true → t.cpu.currentSpsr ≠ none → e.spsr = true) : Holds (Frame e l s) (writePsr r mask v t) := by
  have hflags : ∀ p : Psr, r = false → e.flags = false →
      (maskedFlags mask v p).n = p.n ∧ (maskedFlags mask v p).z = p.z ∧ (maskedFlags mask v p).c = p.c ∧
        (maskedFlags mask v p).v = p.v := by
    intro p hr he
    have h3 : mask.getLsbD 3 = false := by
      cases h3 : mask.getLsbD 3
      · rfl
      · exact absurd (hf hr h3) (by simp [he])
    unfold maskedFlags
    rw [h3]
    exact ⟨rfl, rfl, rfl, rfl⟩
  unfold Sys2Proof.Machine.writePsr
  refine .ite (fun hr => ?_) (fun hr => ?_)
  · unfold writeSpsr
    split
    · exact .unpredictable (.next h.advance)
    · rename_i p hp
      refine .next (Frame.advance ⟨?_, ?_, ?_, by simp [hs hr (by simp [hp])], ?_⟩)
      · simpa using h.flags
      · simpa using h.thumb
      · simpa using h.mode
      · simpa using h.regs
  · have hr' : r = false := by simpa using hr
    unfold writeCpsr
    refine .ite (fun hc => .ite (fun _ => Holds.fault _ _) (fun _ => .unpredictable (.next (Frame.advance ?_))))
      (fun _ => .next (Frame.advance ?_))
    · simp only [Bool.and_eq_true, Bool.not_eq_true'] at hc
      exact h.setCpsr (fun he => hflags _ hr' he) (fun _ => rfl) (by simp [hm hr' hc.1 hc.2])
    · obtain ⟨a, b, c, d⟩ := maskedFlags_rest mask v t.cpu.cpsr
      exact h.setCpsr (fun he => hflags _ hr' he) (fun _ => a) (fun _ => ⟨b, c, d⟩)

theorem Frame.readPsr {r : Bool} {rd : RegNum} (h : Frame e l s t) (hm : rd = 15#4 ∨ (t.cpu.bank, rd) ∈ l) :
    Holds (Frame e l s) (readPsr r rd t) := by
  refine .unpredictable (.ite (fun _ => ?_) (fun _ => .next (h.finish hm)))
  split
  · exact .next (h.finish hm)
  · exact .unpredictable (.next (h.finish hm))

theorem Frame.loadTransfer {k : LoadKind} {x : Indexing} {rn rd : RegNum} {offset : Word} (h : Frame e l s t)
    (hd : rd = 15#4 ∨ (t.cpu.bank, rd) ∈ l) (hn : x.writeBack = true → rn = 15#4 ∨ (t.cpu.bank, rn) ∈ l) :
    Holds (Frame e l s) (loadTransfer k x rn rd offset t) :=
  .unpredictable (.unpredictable (.unpredictableCase (.next (h.loadReg hd hn))))

theorem Frame.storeTransfer {w : Width} {x : Indexing} {rn rd : RegNum} {offset : Word} (h : Frame e l s t)
    (hn : x.writeBack = true → rn = 15#4 ∨ (t.cpu.bank, rn) ∈ l) :
    Holds (Frame e l s) (storeTransfer w x rn rd offset t) := .unpredictable (.unpredictableCase (h.storeReg hn))

theorem Frame.swap {k : LoadKind} {w : Width} {rn rd rm : RegNum} (h : Frame e l s t)
    (hd : rd = 15#4 ∨ (t.cpu.bank, rd) ∈ l) : Holds (Frame e l s) (swap k w rn rd rm t) :=
  .unpredictable (.unpredictable (.orFault fun y _ => .next (Frame.finish
    (t := ((t.loadValue k (t.reg rn)).2.withSys y).internal 1) h.same hd)))

/-- A THUMB operation on low registers (45_thumb_alu.md R420). -/
theorem Frame.thumbAlu {op : DpOp} {rd : LowReg} {a b : Word} {sc : Bool} (h : Frame e l s t)
    (hm : dpWritesRd op = true → (t.cpu.bank, lowReg rd) ∈ l) (he : e.flags = true) :
    Holds (Frame e l s) (thumbAlu op rd a b sc t) := by
  have h1 : ∀ v, Frame e l s (if dpWritesRd op = true then t.setReg (lowReg rd) v else t) := fun v =>
    .ite (fun hw => h.setReg (.inr (hm hw))) (fun _ => h)
  refine .next (Frame.advance ?_)
  exact (h1 _).setCpsr (by simp [he]) (fun _ => by split <;> simp [Psr.setNzcv_t])
    (fun _ => by split <;> exact ⟨by simp [Psr.setNzcv], by simp [Psr.setNzcv], by simp [Psr.setNzcv]⟩)

end

end Sys2Proof.Machine
end

