-- ==== Sys2Proof/Laws/HostCalls.lean ====
section
/-! SUPPORT. What the host calls answer (spec/70_reset_and_hazards.md R775, R776, R780): a frame has at most one answer,
and it is a finished one; a save-state restores the machine it was made from. -/

namespace Sys2Proof.Machine

open Sys2Proof

/-- More steps than a frame needs change nothing (R776). -/
theorem State.stepsUntil_more {frameEnd fuel : Nat} {s : State} {r : Result} (h : s.stepsUntil frameEnd fuel = some r)
    (more : Nat) : s.stepsUntil frameEnd (fuel + more) = some r := by
  induction fuel generalizing s with
  | zero =>
    simp only [State.stepsUntil] at h
    split at h
    · cases h
      cases more <;> simp [State.stepsUntil, *]
    · cases h
  | succ n ih =>
    rw [Nat.succ_add]
    simp only [State.stepsUntil] at h ⊢
    split
    · simpa [*] using h
    · simp only [*, Bool.false_eq_true, ↓reduceIte] at h
      split <;> simp only [*] at h
      · exact ih h
      · exact h
      · exact h

theorem State.stepFrame_more {fuel : Nat} {s : State} {r : Result} (h : s.stepFrame fuel = some r) (more : Nat) :
    s.stepFrame (fuel + more) = some r := by
  unfold State.stepFrame at h ⊢
  split at h
  all_goals first
    | cases h; done
    | rw [State.stepsUntil_more ‹_› more]; exact h

/-- `step_frame` has at most one answer (R775). -/
theorem State.frameAnswers_unique {s : State} {r r' : Result} (h : s.frameAnswers r) (h' : s.frameAnswers r') : r = r' := by
  obtain ⟨m, hm⟩ := h
  obtain ⟨n, hn⟩ := h'
  have h1 := State.stepFrame_more hm n
  rw [Nat.add_comm, State.stepFrame_more hn m] at h1
  exact (Option.some.inj h1).symm

/-- Steps until a frame is over end with the frame over (R775). -/
theorem State.stepsUntil_over {frameEnd fuel : Nat} {s t : State} (h : s.stepsUntil frameEnd fuel = some (.next t)) :
    t.frameOver frameEnd = true := by
  induction fuel generalizing s with
  | zero =>
    simp only [State.stepsUntil] at h
    split at h
    · cases h; assumption
    · cases h
  | succ n ih =>
    simp only [State.stepsUntil] at h
    split at h
    · cases h; assumption
    · split at h
      · exact ih h
      · cases h
      · cases h

/-- A frame that is answered is finished: `now` has reached its end, no dispatch is left half done, and its end is that
of the next frame's start (R775, R776). -/
theorem State.frameAnswers_finished {s t : State} (h : s.frameAnswers (.next t)) :
    s.sys.frameEnd ≤ t.sys.now ∧ t.sys.midDispatch = false ∧ t.sys.frameEndPrev = s.sys.frameEnd := by
  obtain ⟨fuel, h⟩ := h
  unfold State.stepFrame at h
  split at h
  · rename_i u hu
    cases h
    have := State.stepsUntil_over hu
    simp only [State.frameOver, Bool.and_eq_true, decide_eq_true_eq, Bool.not_eq_true'] at this
    exact ⟨this.1, this.2, rfl⟩
  all_goals cases h

/-- The round-trip law (R780). -/
theorem State.deserialize_serialize (s : State) : s.deserialize s.serialize = .ok s := by
  simp [State.deserialize, State.serialize]

/-- A save-state of another ROM or version is refused (R780). -/
theorem State.deserialize_mismatch {s : State} {v : SaveState}
    (h : v.version ≠ Config.saveStateVersion ∨ v.romSize ≠ s.sys.params.romSize ∨ v.rom ≠ s.sys.romCells) :
    s.deserialize v = .error .saveStateMismatch := by
  unfold State.deserialize
  rw [if_neg (by tauto)]

end Sys2Proof.Machine
end

