-- ==== Sys2Proof/Laws/PerInstr.lean ====
section
/-! SUPPORT. The family `Encoding`: every well-formed instruction's code holds the fixed fields of its row of
spec/opcode_table.json, one lemma per constructor. -/

set_option linter.unusedSimpArgs false

namespace Sys2Proof.Laws

open Sys2Proof

/-- A fixed field of a row: its lowest bit, its length and its value. -/
structure Fixed where
  lo    : Nat
  len   : Nat
  value : Nat
  deriving DecidableEq, Repr

/-- Whether a code word has a fixed field. -/
def Fixed.inWord {n : Nat} (f : Fixed) (w : BitVec n) : Prop := field w f.lo f.len = BitVec.ofNat f.len f.value

/-- Whether a code has a fixed field. -/
def Fixed.inCode (f : Fixed) : Code → Prop
  | .arm w => f.inWord w
  | .thumb h => f.inWord h

theorem Fixed.arm {i : Instr} {w : Word} {f : Fixed} (h : encode i = .arm w)
    (hf : field w f.lo f.len = BitVec.ofNat f.len f.value) : f.inCode (encode i) := by rw [h]; exact hf

theorem Fixed.thumb {i : Instr} {w : Half} {f : Fixed} (h : encode i = .thumb w)
    (hf : field w f.lo f.len = BitVec.ofNat f.len f.value) : f.inCode (encode i) := by rw [h]; exact hf

/-- A word that lies in a row by mask and pattern has the row's bits in every field the mask covers. -/
theorem field_of_inRow {n : Nat} {mask pattern w : BitVec n} (lo len value : Nat) (h : inRow mask pattern w = true)
    (hm : field mask lo len = BitVec.allOnes len) (hp : field pattern lo len = BitVec.ofNat len value) :
    field w lo len = BitVec.ofNat len value := by
  have e : w &&& mask = pattern := by simpa [inRow] using h
  rw [← hp, ← e]
  ext i hi
  have hb : (field mask lo len)[i] = true := by rw [hm]; simp
  have hb' : mask.getLsbD (lo + i) = true := by simpa [field] using hb
  simp [field, hb']

/-- The fixed fields of an instruction's row (30_encoding.md R202, R210, R212, R213). -/
def fixedFields : Instr → List Fixed
  | .andShi _ _ _ _ _ _ _ => [⟨4, 1, 0⟩, ⟨21, 7, 0⟩]
  | .andShr _ _ _ _ _ _ _ => [⟨4, 1, 1⟩, ⟨7, 1, 0⟩, ⟨21, 7, 0⟩]
  | .andImm _ _ _ _ _ _ => [⟨21, 7, 16⟩]
  | .eorShi _ _ _ _ _ _ _ => [⟨4, 1, 0⟩, ⟨21, 7, 1⟩]
  | .eorShr _ _ _ _ _ _ _ => [⟨4, 1, 1⟩, ⟨7, 1, 0⟩, ⟨21, 7, 1⟩]
  | .eorImm _ _ _ _ _ _ => [⟨21, 7, 17⟩]
  | .subShi _ _ _ _ _ _ _ => [⟨4, 1, 0⟩, ⟨21, 7, 2⟩]
  | .subShr _ _ _ _ _ _ _ => [⟨4, 1, 1⟩, ⟨7, 1, 0⟩, ⟨21, 7, 2⟩]
  | .subImm _ _ _ _ _ _ => [⟨21, 7, 18⟩]
  | .rsbShi _ _ _ _ _ _ _ => [⟨4, 1, 0⟩, ⟨21, 7, 3⟩]
  | .rsbShr _ _ _ _ _ _ _ => [⟨4, 1, 1⟩, ⟨7, 1, 0⟩, ⟨21, 7, 3⟩]
  | .rsbImm _ _ _ _ _ _ => [⟨21, 7, 19⟩]
  | .addShi _ _ _ _ _ _ _ => [⟨4, 1, 0⟩, ⟨21, 7, 4⟩]
  | .addShr _ _ _ _ _ _ _ => [⟨4, 1, 1⟩, ⟨7, 1, 0⟩, ⟨21, 7, 4⟩]
  | .addImm _ _ _ _ _ _ => [⟨21, 7, 20⟩]
  | .adcShi _ _ _ _ _ _ _ => [⟨4, 1, 0⟩, ⟨21, 7, 5⟩]
  | .adcShr _ _ _ _ _ _ _ => [⟨4, 1, 1⟩, ⟨7, 1, 0⟩, ⟨21, 7, 5⟩]
  | .adcImm _ _ _ _ _ _ => [⟨21, 7, 21⟩]
  | .sbcShi _ _ _ _ _ _ _ => [⟨4, 1, 0⟩, ⟨21, 7, 6⟩]
  | .sbcShr _ _ _ _ _ _ _ => [⟨4, 1, 1⟩, ⟨7, 1, 0⟩, ⟨21, 7, 6⟩]
  | .sbcImm _ _ _ _ _ _ => [⟨21, 7, 22⟩]
  | .rscShi _ _ _ _ _ _ _ => [⟨4, 1, 0⟩, ⟨21, 7, 7⟩]
  | .rscShr _ _ _ _ _ _ _ => [⟨4, 1, 1⟩, ⟨7, 1, 0⟩, ⟨21, 7, 7⟩]
  | .rscImm _ _ _ _ _ _ => [⟨21, 7, 23⟩]
  | .tstShi _ _ _ _ _ => [⟨4, 1, 0⟩, ⟨20, 8, 17⟩]
  | .tstShr _ _ _ _ _ => [⟨4, 1, 1⟩, ⟨7, 1, 0⟩, ⟨20, 8, 17⟩]
  | .tstImm _ _ _ _ => [⟨20, 8, 49⟩]
  | .teqShi _ _ _ _ _ => [⟨4, 1, 0⟩, ⟨20, 8, 19⟩]
  | .teqShr _ _ _ _ _ => [⟨4, 1, 1⟩, ⟨7, 1, 0⟩, ⟨20, 8, 19⟩]
  | .teqImm _ _ _ _ => [⟨20, 8, 51⟩]
  | .cmpShi _ _ _ _ _ => [⟨4, 1, 0⟩, ⟨20, 8, 21⟩]
  | .cmpShr _ _ _ _ _ => [⟨4, 1, 1⟩, ⟨7, 1, 0⟩, ⟨20, 8, 21⟩]
  | .cmpImm _ _ _ _ => [⟨20, 8, 53⟩]
  | .cmnShi _ _ _ _ _ => [⟨4, 1, 0⟩, ⟨20, 8, 23⟩]
  | .cmnShr _ _ _ _ _ => [⟨4, 1, 1⟩, ⟨7, 1, 0⟩, ⟨20, 8, 23⟩]
  | .cmnImm _ _ _ _ => [⟨20, 8, 55⟩]
  | .orrShi _ _ _ _ _ _ _ => [⟨4, 1, 0⟩, ⟨21, 7, 12⟩]
  | .orrShr _ _ _ _ _ _ _ => [⟨4, 1, 1⟩, ⟨7, 1, 0⟩, ⟨21, 7, 12⟩]
  | .orrImm _ _ _ _ _ _ => [⟨21, 7, 28⟩]
  | .movShi _ _ _ _ _ _ => [⟨4, 1, 0⟩, ⟨21, 7, 13⟩]
  | .movShr _ _ _ _ _ _ => [⟨4, 1, 1⟩, ⟨7, 1, 0⟩, ⟨21, 7, 13⟩]
  | .movImm _ _ _ _ _ => [⟨21, 7, 29⟩]
  | .bicShi _ _ _ _ _ _ _ => [⟨4, 1, 0⟩, ⟨21, 7, 14⟩]
  | .bicShr _ _ _ _ _ _ _ => [⟨4, 1, 1⟩, ⟨7, 1, 0⟩, ⟨21, 7, 14⟩]
  | .bicImm _ _ _ _ _ _ => [⟨21, 7, 30⟩]
  | .mvnShi _ _ _ _ _ _ => [⟨4, 1, 0⟩, ⟨21, 7, 15⟩]
  | .mvnShr _ _ _ _ _ _ => [⟨4, 1, 1⟩, ⟨7, 1, 0⟩, ⟨21, 7, 15⟩]
  | .mvnImm _ _ _ _ _ => [⟨21, 7, 31⟩]
  | .mul _ _ _ _ _ => [⟨4, 4, 9⟩, ⟨21, 7, 0⟩]
  | .mla _ _ _ _ _ _ => [⟨4, 4, 9⟩, ⟨21, 7, 1⟩]
  | .umull _ _ _ _ _ _ => [⟨4, 4, 9⟩, ⟨21, 7, 4⟩]
  | .umlal _ _ _ _ _ _ => [⟨4, 4, 9⟩, ⟨21, 7, 5⟩]
  | .smull _ _ _ _ _ _ => [⟨4, 4, 9⟩, ⟨21, 7, 6⟩]
  | .smlal _ _ _ _ _ _ => [⟨4, 4, 9⟩, ⟨21, 7, 7⟩]
  | .swp _ _ _ _ => [⟨4, 4, 9⟩, ⟨20, 8, 16⟩]
  | .swpb _ _ _ _ => [⟨4, 4, 9⟩, ⟨20, 8, 20⟩]
  | .mrs _ _ _ => [⟨4, 4, 0⟩, ⟨20, 2, 0⟩, ⟨23, 5, 2⟩]
  | .msrReg _ _ _ _ => [⟨4, 4, 0⟩, ⟨20, 2, 2⟩, ⟨23, 5, 2⟩]
  | .msrImm _ _ _ _ _ => [⟨20, 2, 2⟩, ⟨23, 5, 6⟩]
  | .bx _ _ => [⟨4, 4, 1⟩, ⟨20, 8, 18⟩]
  | .strhReg _ _ _ _ _ _ _ => [⟨4, 4, 11⟩, ⟨20, 1, 0⟩, ⟨22, 1, 0⟩, ⟨25, 3, 0⟩]
  | .strhImm _ _ _ _ _ _ _ _ => [⟨4, 4, 11⟩, ⟨20, 1, 0⟩, ⟨22, 1, 1⟩, ⟨25, 3, 0⟩]
  | .ldrhReg _ _ _ _ _ _ _ => [⟨4, 4, 11⟩, ⟨20, 1, 1⟩, ⟨22, 1, 0⟩, ⟨25, 3, 0⟩]
  | .ldrhImm _ _ _ _ _ _ _ _ => [⟨4, 4, 11⟩, ⟨20, 1, 1⟩, ⟨22, 1, 1⟩, ⟨25, 3, 0⟩]
  | .ldrsbReg _ _ _ _ _ _ _ => [⟨4, 4, 13⟩, ⟨20, 1, 1⟩, ⟨22, 1, 0⟩, ⟨25, 3, 0⟩]
  | .ldrsbImm _ _ _ _ _ _ _ _ => [⟨4, 4, 13⟩, ⟨20, 1, 1⟩, ⟨22, 1, 1⟩, ⟨25, 3, 0⟩]
  | .ldrshReg _ _ _ _ _ _ _ => [⟨4, 4, 15⟩, ⟨20, 1, 1⟩, ⟨22, 1, 0⟩, ⟨25, 3, 0⟩]
  | .ldrshImm _ _ _ _ _ _ _ _ => [⟨4, 4, 15⟩, ⟨20, 1, 1⟩, ⟨22, 1, 1⟩, ⟨25, 3, 0⟩]
  | .strImmPre _ _ _ _ _ _ => [⟨20, 1, 0⟩, ⟨22, 1, 0⟩, ⟨24, 4, 5⟩]
  | .strImmPost _ _ _ _ _ => [⟨20, 3, 0⟩, ⟨24, 4, 4⟩]
  | .strtImm _ _ _ _ _ => [⟨20, 3, 2⟩, ⟨24, 4, 4⟩]
  | .strRegPre _ _ _ _ _ _ _ _ => [⟨4, 1, 0⟩, ⟨20, 1, 0⟩, ⟨22, 1, 0⟩, ⟨24, 4, 7⟩]
  | .strRegPost _ _ _ _ _ _ _ => [⟨4, 1, 0⟩, ⟨20, 3, 0⟩, ⟨24, 4, 6⟩]
  | .strtReg _ _ _ _ _ _ _ => [⟨4, 1, 0⟩, ⟨20, 3, 2⟩, ⟨24, 4, 6⟩]
  | .ldrImmPre _ _ _ _ _ _ => [⟨20, 1, 1⟩, ⟨22, 1, 0⟩, ⟨24, 4, 5⟩]
  | .ldrImmPost _ _ _ _ _ => [⟨20, 3, 1⟩, ⟨24, 4, 4⟩]
  | .ldrtImm _ _ _ _ _ => [⟨20, 3, 3⟩, ⟨24, 4, 4⟩]
  | .ldrRegPre _ _ _ _ _ _ _ _ => [⟨4, 1, 0⟩, ⟨20, 1, 1⟩, ⟨22, 1, 0⟩, ⟨24, 4, 7⟩]
  | .ldrRegPost _ _ _ _ _ _ _ => [⟨4, 1, 0⟩, ⟨20, 3, 1⟩, ⟨24, 4, 6⟩]
  | .ldrtReg _ _ _ _ _ _ _ => [⟨4, 1, 0⟩, ⟨20, 3, 3⟩, ⟨24, 4, 6⟩]
  | .strbImmPre _ _ _ _ _ _ => [⟨20, 1, 0⟩, ⟨22, 1, 1⟩, ⟨24, 4, 5⟩]
  | .strbImmPost _ _ _ _ _ => [⟨20, 3, 4⟩, ⟨24, 4, 4⟩]
  | .strbtImm _ _ _ _ _ => [⟨20, 3, 6⟩, ⟨24, 4, 4⟩]
  | .strbRegPre _ _ _ _ _ _ _ _ => [⟨4, 1, 0⟩, ⟨20, 1, 0⟩, ⟨22, 1, 1⟩, ⟨24, 4, 7⟩]
  | .strbRegPost _ _ _ _ _ _ _ => [⟨4, 1, 0⟩, ⟨20, 3, 4⟩, ⟨24, 4, 6⟩]
  | .strbtReg _ _ _ _ _ _ _ => [⟨4, 1, 0⟩, ⟨20, 3, 6⟩, ⟨24, 4, 6⟩]
  | .ldrbImmPre _ _ _ _ _ _ => [⟨20, 1, 1⟩, ⟨22, 1, 1⟩, ⟨24, 4, 5⟩]
  | .ldrbImmPost _ _ _ _ _ => [⟨20, 3, 5⟩, ⟨24, 4, 4⟩]
  | .ldrbtImm _ _ _ _ _ => [⟨20, 3, 7⟩, ⟨24, 4, 4⟩]
  | .ldrbRegPre _ _ _ _ _ _ _ _ => [⟨4, 1, 0⟩, ⟨20, 1, 1⟩, ⟨22, 1, 1⟩, ⟨24, 4, 7⟩]
  | .ldrbRegPost _ _ _ _ _ _ _ => [⟨4, 1, 0⟩, ⟨20, 3, 5⟩, ⟨24, 4, 6⟩]
  | .ldrbtReg _ _ _ _ _ _ _ => [⟨4, 1, 0⟩, ⟨20, 3, 7⟩, ⟨24, 4, 6⟩]
  | .stm _ _ _ _ _ _ => [⟨20, 1, 0⟩, ⟨22, 1, 0⟩, ⟨25, 3, 4⟩]
  | .ldm _ _ _ _ _ _ => [⟨20, 1, 1⟩, ⟨22, 1, 0⟩, ⟨25, 3, 4⟩]
  | .stmS _ _ _ _ _ _ => [⟨20, 1, 0⟩, ⟨22, 1, 1⟩, ⟨25, 3, 4⟩]
  | .ldmS _ _ _ _ _ _ => [⟨20, 1, 1⟩, ⟨22, 1, 1⟩, ⟨25, 3, 4⟩]
  | .b _ _ => [⟨24, 4, 10⟩]
  | .bl _ _ => [⟨24, 4, 11⟩]
  | .swi _ _ => [⟨24, 4, 15⟩]
  | .ldcStc _ _ _ _ _ _ _ _ _ _ => [⟨25, 3, 6⟩]
  | .cdp _ _ _ _ _ _ _ => [⟨4, 1, 0⟩, ⟨24, 4, 14⟩]
  | .mrcMcr _ _ _ _ _ _ _ _ => [⟨4, 1, 1⟩, ⟨24, 4, 14⟩]
  | .undefMul00001 _ => [⟨4, 4, 9⟩, ⟨22, 6, 1⟩]
  | .undefMul00011 _ => [⟨4, 4, 9⟩, ⟨23, 5, 3⟩]
  | .undefSwpX1 _ => [⟨4, 4, 9⟩, ⟨20, 1, 1⟩, ⟨23, 5, 2⟩]
  | .undefSwp10 _ => [⟨4, 4, 9⟩, ⟨20, 2, 2⟩, ⟨23, 5, 2⟩]
  | .undefLdrdStrd _ => [⟨4, 1, 1⟩, ⟨6, 2, 3⟩, ⟨20, 1, 0⟩, ⟨25, 3, 0⟩]
  | .undefMiscBx00 _ => [⟨4, 4, 1⟩, ⟨20, 8, 16⟩]
  | .undefMiscBx10 _ => [⟨4, 4, 1⟩, ⟨20, 8, 20⟩]
  | .undefMiscBx11 _ => [⟨4, 4, 1⟩, ⟨20, 8, 22⟩]
  | .undefMisc01xx _ => [⟨6, 2, 1⟩, ⟨20, 1, 0⟩, ⟨23, 5, 2⟩]
  | .undefMisc001x _ => [⟨5, 3, 1⟩, ⟨20, 1, 0⟩, ⟨23, 5, 2⟩]
  | .undefMisc1xx0 _ => [⟨4, 1, 0⟩, ⟨7, 1, 1⟩, ⟨20, 1, 0⟩, ⟨23, 5, 2⟩]
  | .undefMovStatus _ => [⟨20, 2, 0⟩, ⟨23, 5, 6⟩]
  | .undefMedia _ => [⟨4, 1, 1⟩, ⟨25, 3, 3⟩]
  | .tLslImm _ _ _ => [⟨11, 5, 0⟩]
  | .tLsrImm _ _ _ => [⟨11, 5, 1⟩]
  | .tAsrImm _ _ _ => [⟨11, 5, 2⟩]
  | .tAddReg _ _ _ => [⟨9, 7, 12⟩]
  | .tSubReg _ _ _ => [⟨9, 7, 13⟩]
  | .tAddImm3 _ _ _ => [⟨9, 7, 14⟩]
  | .tSubImm3 _ _ _ => [⟨9, 7, 15⟩]
  | .tMovImm8 _ _ => [⟨11, 5, 4⟩]
  | .tCmpImm8 _ _ => [⟨11, 5, 5⟩]
  | .tAddImm8 _ _ => [⟨11, 5, 6⟩]
  | .tSubImm8 _ _ => [⟨11, 5, 7⟩]
  | .tAnd _ _ => [⟨6, 10, 256⟩]
  | .tEor _ _ => [⟨6, 10, 257⟩]
  | .tLslReg _ _ => [⟨6, 10, 258⟩]
  | .tLsrReg _ _ => [⟨6, 10, 259⟩]
  | .tAsrReg _ _ => [⟨6, 10, 260⟩]
  | .tAdc _ _ => [⟨6, 10, 261⟩]
  | .tSbc _ _ => [⟨6, 10, 262⟩]
  | .tRorReg _ _ => [⟨6, 10, 263⟩]
  | .tTst _ _ => [⟨6, 10, 264⟩]
  | .tNeg _ _ => [⟨6, 10, 265⟩]
  | .tCmpReg _ _ => [⟨6, 10, 266⟩]
  | .tCmn _ _ => [⟨6, 10, 267⟩]
  | .tOrr _ _ => [⟨6, 10, 268⟩]
  | .tMul _ _ => [⟨6, 10, 269⟩]
  | .tBic _ _ => [⟨6, 10, 270⟩]
  | .tMvn _ _ => [⟨6, 10, 271⟩]
  | .tAddHi _ _ _ _ => [⟨8, 8, 68⟩]
  | .tCmpHi _ _ _ _ => [⟨8, 8, 69⟩]
  | .tMovHi _ _ _ _ => [⟨8, 8, 70⟩]
  | .tBx _ _ _ _ => [⟨8, 8, 71⟩]
  | .tLdrPc _ _ => [⟨11, 5, 9⟩]
  | .tStrReg _ _ _ => [⟨9, 7, 40⟩]
  | .tStrbReg _ _ _ => [⟨9, 7, 42⟩]
  | .tLdrReg _ _ _ => [⟨9, 7, 44⟩]
  | .tLdrbReg _ _ _ => [⟨9, 7, 46⟩]
  | .tStrhReg _ _ _ => [⟨9, 7, 41⟩]
  | .tLdsbReg _ _ _ => [⟨9, 7, 43⟩]
  | .tLdrhReg _ _ _ => [⟨9, 7, 45⟩]
  | .tLdshReg _ _ _ => [⟨9, 7, 47⟩]
  | .tStrImm _ _ _ => [⟨11, 5, 12⟩]
  | .tLdrImm _ _ _ => [⟨11, 5, 13⟩]
  | .tStrbImm _ _ _ => [⟨11, 5, 14⟩]
  | .tLdrbImm _ _ _ => [⟨11, 5, 15⟩]
  | .tStrhImm _ _ _ => [⟨11, 5, 16⟩]
  | .tLdrhImm _ _ _ => [⟨11, 5, 17⟩]
  | .tStrSp _ _ => [⟨11, 5, 18⟩]
  | .tLdrSp _ _ => [⟨11, 5, 19⟩]
  | .tAddPc _ _ => [⟨11, 5, 20⟩]
  | .tAddSp _ _ => [⟨11, 5, 21⟩]
  | .tAddSpImm _ _ => [⟨8, 8, 176⟩]
  | .tPush _ _ => [⟨9, 7, 90⟩]
  | .tPop _ _ => [⟨9, 7, 94⟩]
  | .tStmia _ _ => [⟨11, 5, 24⟩]
  | .tLdmia _ _ => [⟨11, 5, 25⟩]
  | .tBcond0xxx _ _ => [⟨12, 4, 13⟩, ⟨11, 1, 0⟩]
  | .tBcond10xx _ _ => [⟨12, 4, 13⟩, ⟨10, 2, 2⟩]
  | .tBcond110x _ _ => [⟨12, 4, 13⟩, ⟨9, 3, 6⟩]
  | .tSwi _ => [⟨8, 8, 223⟩]
  | .tB _ => [⟨11, 5, 28⟩]
  | .tBlPrefix _ => [⟨11, 5, 30⟩]
  | .tBlSuffix _ => [⟨11, 5, 31⟩]
  | .tUndef10110001 _ => [⟨8, 8, 177⟩]
  | .tUndef1011001x _ => [⟨9, 7, 89⟩]
  | .tUndef1011011x _ => [⟨9, 7, 91⟩]
  | .tUndef101110xx _ => [⟨10, 6, 46⟩]
  | .tUndef1011111x _ => [⟨9, 7, 95⟩]
  | .tUndef11011110 _ => [⟨8, 8, 222⟩]
  | .tUndef11101 _ => [⟨11, 5, 29⟩]

/-- The code of a well-formed instruction has every fixed field of its row. -/
def Encoding.Statement (i : Instr) : Prop := i.wellFormed = true → ∀ f ∈ fixedFields i, f.inCode (encode i)

/-! ## One lemma per constructor -/

theorem Encoding.andShi (cond : Cond) (s : Bool) (rn : RegNum) (rd : RegNum) (shiftImm : BitVec 5) (shift : ShiftKind) (rm : RegNum) :
    Encoding.Statement (.andShi cond s rn rd shiftImm shift rm) := by
  intro _ f hf
  rcases hf with _ | ⟨_, _ | ⟨_, ⟨⟩⟩⟩
  · exact Fixed.arm rfl (by simp (disch := omega) only [field_append_lo, field_append_hi]; rfl)
  · exact Fixed.arm rfl (by simp (disch := omega) only [field_append_lo, field_append_hi]; rfl)
theorem Encoding.andShr (cond : Cond) (s : Bool) (rn : RegNum) (rd : RegNum) (rs : RegNum) (shift : ShiftKind) (rm : RegNum) :
    Encoding.Statement (.andShr cond s rn rd rs shift rm) := by
  intro _ f hf
  rcases hf with _ | ⟨_, _ | ⟨_, _ | ⟨_, ⟨⟩⟩⟩⟩
  · exact Fixed.arm rfl (by simp (disch := omega) only [field_append_lo, field_append_hi]; rfl)
  · exact Fixed.arm rfl (by simp (disch := omega) only [field_append_lo, field_append_hi]; rfl)
  · exact Fixed.arm rfl (by simp (disch := omega) only [field_append_lo, field_append_hi]; rfl)
theorem Encoding.andImm (cond : Cond) (s : Bool) (rn : RegNum) (rd : RegNum) (rotate : BitVec 4) (imm8 : BitVec 8) :
    Encoding.Statement (.andImm cond s rn rd rotate imm8) := by
  intro _ f hf
  rcases hf with _ | ⟨_, ⟨⟩⟩
  exact Fixed.arm rfl (by simp (disch := omega) only [field_append_lo, field_append_hi]; rfl)
theorem Encoding.eorShi (cond : Cond) (s : Bool) (rn : RegNum) (rd : RegNum) (shiftImm : BitVec 5) (shift : ShiftKind) (rm : RegNum) :
    Encoding.Statement (.eorShi cond s rn rd shiftImm shift rm) := by
  intro _ f hf
  rcases hf with _ | ⟨_, _ | ⟨_, ⟨⟩⟩⟩
  · exact Fixed.arm rfl (by simp (disch := omega) only [field_append_lo, field_append_hi]; rfl)
  · exact Fixed.arm rfl (by simp (disch := omega) only [field_append_lo, field_append_hi]; rfl)
theorem Encoding.eorShr (cond : Cond) (s : Bool) (rn : RegNum) (rd : RegNum) (rs : RegNum) (shift : ShiftKind) (rm : RegNum) :
    Encoding.Statement (.eorShr cond s rn rd rs shift rm) := by
  intro _ f hf
  rcases hf with _ | ⟨_, _ | ⟨_, _ | ⟨_, ⟨⟩⟩⟩⟩
  · exact Fixed.arm rfl (by simp (disch := omega) only [field_append_lo, field_append_hi]; rfl)
  · exact Fixed.arm rfl (by simp (disch := omega) only [field_append_lo, field_append_hi]; rfl)
  · exact Fixed.arm rfl (by simp (disch := omega) only [field_append_lo, field_append_hi]; rfl)
theorem Encoding.eorImm (cond : Cond) (s : Bool) (rn : RegNum) (rd : RegNum) (rotate : BitVec 4) (imm8 : BitVec 8) :
    Encoding.Statement (.eorImm cond s rn rd rotate imm8) := by
  intro _ f hf
  rcases hf with _ | ⟨_, ⟨⟩⟩
  exact Fixed.arm rfl (by simp (disch := omega) only [field_append_lo, field_append_hi]; rfl)
theorem Encoding.subShi (cond : Cond) (s : Bool) (rn : RegNum) (rd : RegNum) (shiftImm : BitVec 5) (shift : ShiftKind) (rm : RegNum) :
    Encoding.Statement (.subShi cond s rn rd shiftImm shift rm) := by
  intro _ f hf
  rcases hf with _ | ⟨_, _ | ⟨_, ⟨⟩⟩⟩
  · exact Fixed.arm rfl (by simp (disch := omega) only [field_append_lo, field_append_hi]; rfl)
  · exact Fixed.arm rfl (by simp (disch := omega) only [field_append_lo, field_append_hi]; rfl)
theorem Encoding.subShr (cond : Cond) (s : Bool) (rn : RegNum) (rd : RegNum) (rs : RegNum) (shift : ShiftKind) (rm : RegNum) :
    Encoding.Statement (.subShr cond s rn rd rs shift rm) := by
  intro _ f hf
  rcases hf with _ | ⟨_, _ | ⟨_, _ | ⟨_, ⟨⟩⟩⟩⟩
  · exact Fixed.arm rfl (by simp (disch := omega) only [field_append_lo, field_append_hi]; rfl)
  · exact Fixed.arm rfl (by simp (disch := omega) only [field_append_lo, field_append_hi]; rfl)
  · exact Fixed.arm rfl (by simp (disch := omega) only [field_append_lo, field_append_hi]; rfl)
theorem Encoding.subImm (cond : Cond) (s : Bool) (rn : RegNum) (rd : RegNum) (rotate : BitVec 4) (imm8 : BitVec 8) :
    Encoding.Statement (.subImm cond s rn rd rotate imm8) := by
  intro _ f hf
  rcases hf with _ | ⟨_, ⟨⟩⟩
  exact Fixed.arm rfl (by simp (disch := omega) only [field_append_lo, field_append_hi]; rfl)
theorem Encoding.rsbShi (cond : Cond) (s : Bool) (rn : RegNum) (rd : RegNum) (shiftImm : BitVec 5) (shift : ShiftKind) (rm : RegNum) :
    Encoding.Statement (.rsbShi cond s rn rd shiftImm shift rm) := by
  intro _ f hf
  rcases hf with _ | ⟨_, _ | ⟨_, ⟨⟩⟩⟩
  · exact Fixed.arm rfl (by simp (disch := omega) only [field_append_lo, field_append_hi]; rfl)
  · exact Fixed.arm rfl (by simp (disch := omega) only [field_append_lo, field_append_hi]; rfl)
theorem Encoding.rsbShr (cond : Cond) (s : Bool) (rn : RegNum) (rd : RegNum) (rs : RegNum) (shift : ShiftKind) (rm : RegNum) :
    Encoding.Statement (.rsbShr cond s rn rd rs shift rm) := by
  intro _ f hf
  rcases hf with _ | ⟨_, _ | ⟨_, _ | ⟨_, ⟨⟩⟩⟩⟩
  · exact Fixed.arm rfl (by simp (disch := omega) only [field_append_lo, field_append_hi]; rfl)
  · exact Fixed.arm rfl (by simp (disch := omega) only [field_append_lo, field_append_hi]; rfl)
  · exact Fixed.arm rfl (by simp (disch := omega) only [field_append_lo, field_append_hi]; rfl)
theorem Encoding.rsbImm (cond : Cond) (s : Bool) (rn : RegNum) (rd : RegNum) (rotate : BitVec 4) (imm8 : BitVec 8) :
    Encoding.Statement (.rsbImm cond s rn rd rotate imm8) := by
  intro _ f hf
  rcases hf with _ | ⟨_, ⟨⟩⟩
  exact Fixed.arm rfl (by simp (disch := omega) only [field_append_lo, field_append_hi]; rfl)
theorem Encoding.addShi (cond : Cond) (s : Bool) (rn : RegNum) (rd : RegNum) (shiftImm : BitVec 5) (shift : ShiftKind) (rm : RegNum) :
    Encoding.Statement (.addShi cond s rn rd shiftImm shift rm) := by
  intro _ f hf
  rcases hf with _ | ⟨_, _ | ⟨_, ⟨⟩⟩⟩
  · exact Fixed.arm rfl (by simp (disch := omega) only [field_append_lo, field_append_hi]; rfl)
  · exact Fixed.arm rfl (by simp (disch := omega) only [field_append_lo, field_append_hi]; rfl)
theorem Encoding.addShr (cond : Cond) (s : Bool) (rn : RegNum) (rd : RegNum) (rs : RegNum) (shift : ShiftKind) (rm : RegNum) :
    Encoding.Statement (.addShr cond s rn rd rs shift rm) := by
  intro _ f hf
  rcases hf with _ | ⟨_, _ | ⟨_, _ | ⟨_, ⟨⟩⟩⟩⟩
  · exact Fixed.arm rfl (by simp (disch := omega) only [field_append_lo, field_append_hi]; rfl)
  · exact Fixed.arm rfl (by simp (disch := omega) only [field_append_lo, field_append_hi]; rfl)
  · exact Fixed.arm rfl (by simp (disch := omega) only [field_append_lo, field_append_hi]; rfl)
theorem Encoding.addImm (cond : Cond) (s : Bool) (rn : RegNum) (rd : RegNum) (rotate : BitVec 4) (imm8 : BitVec 8) :
    Encoding.Statement (.addImm cond s rn rd rotate imm8) := by
  intro _ f hf
  rcases hf with _ | ⟨_, ⟨⟩⟩
  exact Fixed.arm rfl (by simp (disch := omega) only [field_append_lo, field_append_hi]; rfl)
theorem Encoding.adcShi (cond : Cond) (s : Bool) (rn : RegNum) (rd : RegNum) (shiftImm : BitVec 5) (shift : ShiftKind) (rm : RegNum) :
    Encoding.Statement (.adcShi cond s rn rd shiftImm shift rm) := by
  intro _ f hf
  rcases hf with _ | ⟨_, _ | ⟨_, ⟨⟩⟩⟩
  · exact Fixed.arm rfl (by simp (disch := omega) only [field_append_lo, field_append_hi]; rfl)
  · exact Fixed.arm rfl (by simp (disch := omega) only [field_append_lo, field_append_hi]; rfl)
theorem Encoding.adcShr (cond : Cond) (s : Bool) (rn : RegNum) (rd : RegNum) (rs : RegNum) (shift : ShiftKind) (rm : RegNum) :
    Encoding.Statement (.adcShr cond s rn rd rs shift rm) := by
  intro _ f hf
  rcases hf with _ | ⟨_, _ | ⟨_, _ | ⟨_, ⟨⟩⟩⟩⟩
  · exact Fixed.arm rfl (by simp (disch := omega) only [field_append_lo, field_append_hi]; rfl)
  · exact Fixed.arm rfl (by simp (disch := omega) only [field_append_lo, field_append_hi]; rfl)
  · exact Fixed.arm rfl (by simp (disch := omega) only [field_append_lo, field_append_hi]; rfl)
theorem Encoding.adcImm (cond : Cond) (s : Bool) (rn : RegNum) (rd : RegNum) (rotate : BitVec 4) (imm8 : BitVec 8) :
    Encoding.Statement (.adcImm cond s rn rd rotate imm8) := by
  intro _ f hf
  rcases hf with _ | ⟨_, ⟨⟩⟩
  exact Fixed.arm rfl (by simp (disch := omega) only [field_append_lo, field_append_hi]; rfl)
theorem Encoding.sbcShi (cond : Cond) (s : Bool) (rn : RegNum) (rd : RegNum) (shiftImm : BitVec 5) (shift : ShiftKind) (rm : RegNum) :
    Encoding.Statement (.sbcShi cond s rn rd shiftImm shift rm) := by
  intro _ f hf
  rcases hf with _ | ⟨_, _ | ⟨_, ⟨⟩⟩⟩
  · exact Fixed.arm rfl (by simp (disch := omega) only [field_append_lo, field_append_hi]; rfl)
  · exact Fixed.arm rfl (by simp (disch := omega) only [field_append_lo, field_append_hi]; rfl)
theorem Encoding.sbcShr (cond : Cond) (s : Bool) (rn : RegNum) (rd : RegNum) (rs : RegNum) (shift : ShiftKind) (rm : RegNum) :
    Encoding.Statement (.sbcShr cond s rn rd rs shift rm) := by
  intro _ f hf
  rcases hf with _ | ⟨_, _ | ⟨_, _ | ⟨_, ⟨⟩⟩⟩⟩
  · exact Fixed.arm rfl (by simp (disch := omega) only [field_append_lo, field_append_hi]; rfl)
  · exact Fixed.arm rfl (by simp (disch := omega) only [field_append_lo, field_append_hi]; rfl)
  · exact Fixed.arm rfl (by simp (disch := omega) only [field_append_lo, field_append_hi]; rfl)
theorem Encoding.sbcImm (cond : Cond) (s : Bool) (rn : RegNum) (rd : RegNum) (rotate : BitVec 4) (imm8 : BitVec 8) :
    Encoding.Statement (.sbcImm cond s rn rd rotate imm8) := by
  intro _ f hf
  rcases hf with _ | ⟨_, ⟨⟩⟩
  exact Fixed.arm rfl (by simp (disch := omega) only [field_append_lo, field_append_hi]; rfl)
theorem Encoding.rscShi (cond : Cond) (s : Bool) (rn : RegNum) (rd : RegNum) (shiftImm : BitVec 5) (shift : ShiftKind) (rm : RegNum) :
    Encoding.Statement (.rscShi cond s rn rd shiftImm shift rm) := by
  intro _ f hf
  rcases hf with _ | ⟨_, _ | ⟨_, ⟨⟩⟩⟩
  · exact Fixed.arm rfl (by simp (disch := omega) only [field_append_lo, field_append_hi]; rfl)
  · exact Fixed.arm rfl (by simp (disch := omega) only [field_append_lo, field_append_hi]; rfl)
theorem Encoding.rscShr (cond : Cond) (s : Bool) (rn : RegNum) (rd : RegNum) (rs : RegNum) (shift : ShiftKind) (rm : RegNum) :
    Encoding.Statement (.rscShr cond s rn rd rs shift rm) := by
  intro _ f hf
  rcases hf with _ | ⟨_, _ | ⟨_, _ | ⟨_, ⟨⟩⟩⟩⟩
  · exact Fixed.arm rfl (by simp (disch := omega) only [field_append_lo, field_append_hi]; rfl)
  · exact Fixed.arm rfl (by simp (disch := omega) only [field_append_lo, field_append_hi]; rfl)
  · exact Fixed.arm rfl (by simp (disch := omega) only [field_append_lo, field_append_hi]; rfl)
theorem Encoding.rscImm (cond : Cond) (s : Bool) (rn : RegNum) (rd : RegNum) (rotate : BitVec 4) (imm8 : BitVec 8) :
    Encoding.Statement (.rscImm cond s rn rd rotate imm8) := by
  intro _ f hf
  rcases hf with _ | ⟨_, ⟨⟩⟩
  exact Fixed.arm rfl (by simp (disch := omega) only [field_append_lo, field_append_hi]; rfl)
theorem Encoding.tstShi (cond : Cond) (rn : RegNum) (shiftImm : BitVec 5) (shift : ShiftKind) (rm : RegNum) :
    Encoding.Statement (.tstShi cond rn shiftImm shift rm) := by
  intro _ f hf
  rcases hf with _ | ⟨_, _ | ⟨_, ⟨⟩⟩⟩
  · exact Fixed.arm rfl (by simp (disch := omega) only [field_append_lo, field_append_hi]; rfl)
  · exact Fixed.arm rfl (by simp (disch := omega) only [field_append_lo, field_append_hi]; rfl)
theorem Encoding.tstShr (cond : Cond) (rn : RegNum) (rs : RegNum) (shift : ShiftKind) (rm : RegNum) :
    Encoding.Statement (.tstShr cond rn rs shift rm) := by
  intro _ f hf
  rcases hf with _ | ⟨_, _ | ⟨_, _ | ⟨_, ⟨⟩⟩⟩⟩
  · exact Fixed.arm rfl (by simp (disch := omega) only [field_append_lo, field_append_hi]; rfl)
  · exact Fixed.arm rfl (by simp (disch := omega) only [field_append_lo, field_append_hi]; rfl)
  · exact Fixed.arm rfl (by simp (disch := omega) only [field_append_lo, field_append_hi]; rfl)
theorem Encoding.tstImm (cond : Cond) (rn : RegNum) (rotate : BitVec 4) (imm8 : BitVec 8) :
    Encoding.Statement (.tstImm cond rn rotate imm8) := by
  intro _ f hf
  rcases hf with _ | ⟨_, ⟨⟩⟩
  exact Fixed.arm rfl (by simp (disch := omega) only [field_append_lo, field_append_hi]; rfl)
theorem Encoding.teqShi (cond : Cond) (rn : RegNum) (shiftImm : BitVec 5) (shift : ShiftKind) (rm : RegNum) :
    Encoding.Statement (.teqShi cond rn shiftImm shift rm) := by
  intro _ f hf
  rcases hf with _ | ⟨_, _ | ⟨_, ⟨⟩⟩⟩
  · exact Fixed.arm rfl (by simp (disch := omega) only [field_append_lo, field_append_hi]; rfl)
  · exact Fixed.arm rfl (by simp (disch := omega) only [field_append_lo, field_append_hi]; rfl)
theorem Encoding.teqShr (cond : Cond) (rn : RegNum) (rs : RegNum) (shift : ShiftKind) (rm : RegNum) :
    Encoding.Statement (.teqShr cond rn rs shift rm) := by
  intro _ f hf
  rcases hf with _ | ⟨_, _ | ⟨_, _ | ⟨_, ⟨⟩⟩⟩⟩
  · exact Fixed.arm rfl (by simp (disch := omega) only [field_append_lo, field_append_hi]; rfl)
  · exact Fixed.arm rfl (by simp (disch := omega) only [field_append_lo, field_append_hi]; rfl)
  · exact Fixed.arm rfl (by simp (disch := omega) only [field_append_lo, field_append_hi]; rfl)
theorem Encoding.teqImm (cond : Cond) (rn : RegNum) (rotate : BitVec 4) (imm8 : BitVec 8) :
    Encoding.Statement (.teqImm cond rn rotate imm8) := by
  intro _ f hf
  rcases hf with _ | ⟨_, ⟨⟩⟩
  exact Fixed.arm rfl (by simp (disch := omega) only [field_append_lo, field_append_hi]; rfl)
theorem Encoding.cmpShi (cond : Cond) (rn : RegNum) (shiftImm : BitVec 5) (shift : ShiftKind) (rm : RegNum) :
    Encoding.Statement (.cmpShi cond rn shiftImm shift rm) := by
  intro _ f hf
  rcases hf with _ | ⟨_, _ | ⟨_, ⟨⟩⟩⟩
  · exact Fixed.arm rfl (by simp (disch := omega) only [field_append_lo, field_append_hi]; rfl)
  · exact Fixed.arm rfl (by simp (disch := omega) only [field_append_lo, field_append_hi]; rfl)
theorem Encoding.cmpShr (cond : Cond) (rn : RegNum) (rs : RegNum) (shift : ShiftKind) (rm : RegNum) :
    Encoding.Statement (.cmpShr cond rn rs shift rm) := by
  intro _ f hf
  rcases hf with _ | ⟨_, _ | ⟨_, _ | ⟨_, ⟨⟩⟩⟩⟩
  · exact Fixed.arm rfl (by simp (disch := omega) only [field_append_lo, field_append_hi]; rfl)
  · exact Fixed.arm rfl (by simp (disch := omega) only [field_append_lo, field_append_hi]; rfl)
  · exact Fixed.arm rfl (by simp (disch := omega) only [field_append_lo, field_append_hi]; rfl)
theorem Encoding.cmpImm (cond : Cond) (rn : RegNum) (rotate : BitVec 4) (imm8 : BitVec 8) :
    Encoding.Statement (.cmpImm cond rn rotate imm8) := by
  intro _ f hf
  rcases hf with _ | ⟨_, ⟨⟩⟩
  exact Fixed.arm rfl (by simp (disch := omega) only [field_append_lo, field_append_hi]; rfl)
theorem Encoding.cmnShi (cond : Cond) (rn : RegNum) (shiftImm : BitVec 5) (shift : ShiftKind) (rm : RegNum) :
    Encoding.Statement (.cmnShi cond rn shiftImm shift rm) := by
  intro _ f hf
  rcases hf with _ | ⟨_, _ | ⟨_, ⟨⟩⟩⟩
  · exact Fixed.arm rfl (by simp (disch := omega) only [field_append_lo, field_append_hi]; rfl)
  · exact Fixed.arm rfl (by simp (disch := omega) only [field_append_lo, field_append_hi]; rfl)
theorem Encoding.cmnShr (cond : Cond) (rn : RegNum) (rs : RegNum) (shift : ShiftKind) (rm : RegNum) :
    Encoding.Statement (.cmnShr cond rn rs shift rm) := by
  intro _ f hf
  rcases hf with _ | ⟨_, _ | ⟨_, _ | ⟨_, ⟨⟩⟩⟩⟩
  · exact Fixed.arm rfl (by simp (disch := omega) only [field_append_lo, field_append_hi]; rfl)
  · exact Fixed.arm rfl (by simp (disch := omega) only [field_append_lo, field_append_hi]; rfl)
  · exact Fixed.arm rfl (by simp (disch := omega) only [field_append_lo, field_append_hi]; rfl)
theorem Encoding.cmnImm (cond : Cond) (rn : RegNum) (rotate : BitVec 4) (imm8 : BitVec 8) :
    Encoding.Statement (.cmnImm cond rn rotate imm8) := by
  intro _ f hf
  rcases hf with _ | ⟨_, ⟨⟩⟩
  exact Fixed.arm rfl (by simp (disch := omega) only [field_append_lo, field_append_hi]; rfl)
theorem Encoding.orrShi (cond : Cond) (s : Bool) (rn : RegNum) (rd : RegNum) (shiftImm : BitVec 5) (shift : ShiftKind) (rm : RegNum) :
    Encoding.Statement (.orrShi cond s rn rd shiftImm shift rm) := by
  intro _ f hf
  rcases hf with _ | ⟨_, _ | ⟨_, ⟨⟩⟩⟩
  · exact Fixed.arm rfl (by simp (disch := omega) only [field_append_lo, field_append_hi]; rfl)
  · exact Fixed.arm rfl (by simp (disch := omega) only [field_append_lo, field_append_hi]; rfl)
theorem Encoding.orrShr (cond : Cond) (s : Bool) (rn : RegNum) (rd : RegNum) (rs : RegNum) (shift : ShiftKind) (rm : RegNum) :
    Encoding.Statement (.orrShr cond s rn rd rs shift rm) := by
  intro _ f hf
  rcases hf with _ | ⟨_, _ | ⟨_, _ | ⟨_, ⟨⟩⟩⟩⟩
  · exact Fixed.arm rfl (by simp (disch := omega) only [field_append_lo, field_append_hi]; rfl)
  · exact Fixed.arm rfl (by simp (disch := omega) only [field_append_lo, field_append_hi]; rfl)
  · exact Fixed.arm rfl (by simp (disch := omega) only [field_append_lo, field_append_hi]; rfl)
theorem Encoding.orrImm (cond : Cond) (s : Bool) (rn : RegNum) (rd : RegNum) (rotate : BitVec 4) (imm8 : BitVec 8) :
    Encoding.Statement (.orrImm cond s rn rd rotate imm8) := by
  intro _ f hf
  rcases hf with _ | ⟨_, ⟨⟩⟩
  exact Fixed.arm rfl (by simp (disch := omega) only [field_append_lo, field_append_hi]; rfl)
theorem Encoding.movShi (cond : Cond) (s : Bool) (rd : RegNum) (shiftImm : BitVec 5) (shift : ShiftKind) (rm : RegNum) :
    Encoding.Statement (.movShi cond s rd shiftImm shift rm) := by
  intro _ f hf
  rcases hf with _ | ⟨_, _ | ⟨_, ⟨⟩⟩⟩
  · exact Fixed.arm rfl (by simp (disch := omega) only [field_append_lo, field_append_hi]; rfl)
  · exact Fixed.arm rfl (by simp (disch := omega) only [field_append_lo, field_append_hi]; rfl)
theorem Encoding.movShr (cond : Cond) (s : Bool) (rd : RegNum) (rs : RegNum) (shift : ShiftKind) (rm : RegNum) :
    Encoding.Statement (.movShr cond s rd rs shift rm) := by
  intro _ f hf
  rcases hf with _ | ⟨_, _ | ⟨_, _ | ⟨_, ⟨⟩⟩⟩⟩
  · exact Fixed.arm rfl (by simp (disch := omega) only [field_append_lo, field_append_hi]; rfl)
  · exact Fixed.arm rfl (by simp (disch := omega) only [field_append_lo, field_append_hi]; rfl)
  · exact Fixed.arm rfl (by simp (disch := omega) only [field_append_lo, field_append_hi]; rfl)
theorem Encoding.movImm (cond : Cond) (s : Bool) (rd : RegNum) (rotate : BitVec 4) (imm8 : BitVec 8) :
    Encoding.Statement (.movImm cond s rd rotate imm8) := by
  intro _ f hf
  rcases hf with _ | ⟨_, ⟨⟩⟩
  exact Fixed.arm rfl (by simp (disch := omega) only [field_append_lo, field_append_hi]; rfl)
theorem Encoding.bicShi (cond : Cond) (s : Bool) (rn : RegNum) (rd : RegNum) (shiftImm : BitVec 5) (shift : ShiftKind) (rm : RegNum) :
    Encoding.Statement (.bicShi cond s rn rd shiftImm shift rm) := by
  intro _ f hf
  rcases hf with _ | ⟨_, _ | ⟨_, ⟨⟩⟩⟩
  · exact Fixed.arm rfl (by simp (disch := omega) only [field_append_lo, field_append_hi]; rfl)
  · exact Fixed.arm rfl (by simp (disch := omega) only [field_append_lo, field_append_hi]; rfl)
theorem Encoding.bicShr (cond : Cond) (s : Bool) (rn : RegNum) (rd : RegNum) (rs : RegNum) (shift : ShiftKind) (rm : RegNum) :
    Encoding.Statement (.bicShr cond s rn rd rs shift rm) := by
  intro _ f hf
  rcases hf with _ | ⟨_, _ | ⟨_, _ | ⟨_, ⟨⟩⟩⟩⟩
  · exact Fixed.arm rfl (by simp (disch := omega) only [field_append_lo, field_append_hi]; rfl)
  · exact Fixed.arm rfl (by simp (disch := omega) only [field_append_lo, field_append_hi]; rfl)
  · exact Fixed.arm rfl (by simp (disch := omega) only [field_append_lo, field_append_hi]; rfl)
theorem Encoding.bicImm (cond : Cond) (s : Bool) (rn : RegNum) (rd : RegNum) (rotate : BitVec 4) (imm8 : BitVec 8) :
    Encoding.Statement (.bicImm cond s rn rd rotate imm8) := by
  intro _ f hf
  rcases hf with _ | ⟨_, ⟨⟩⟩
  exact Fixed.arm rfl (by simp (disch := omega) only [field_append_lo, field_append_hi]; rfl)
theorem Encoding.mvnShi (cond : Cond) (s : Bool) (rd : RegNum) (shiftImm : BitVec 5) (shift : ShiftKind) (rm : RegNum) :
    Encoding.Statement (.mvnShi cond s rd shiftImm shift rm) := by
  intro _ f hf
  rcases hf with _ | ⟨_, _ | ⟨_, ⟨⟩⟩⟩
  · exact Fixed.arm rfl (by simp (disch := omega) only [field_append_lo, field_append_hi]; rfl)
  · exact Fixed.arm rfl (by simp (disch := omega) only [field_append_lo, field_append_hi]; rfl)
theorem Encoding.mvnShr (cond : Cond) (s : Bool) (rd : RegNum) (rs : RegNum) (shift : ShiftKind) (rm : RegNum) :
    Encoding.Statement (.mvnShr cond s rd rs shift rm) := by
  intro _ f hf
  rcases hf with _ | ⟨_, _ | ⟨_, _ | ⟨_, ⟨⟩⟩⟩⟩
  · exact Fixed.arm rfl (by simp (disch := omega) only [field_append_lo, field_append_hi]; rfl)
  · exact Fixed.arm rfl (by simp (disch := omega) only [field_append_lo, field_append_hi]; rfl)
  · exact Fixed.arm rfl (by simp (disch := omega) only [field_append_lo, field_append_hi]; rfl)
theorem Encoding.mvnImm (cond : Cond) (s : Bool) (rd : RegNum) (rotate : BitVec 4) (imm8 : BitVec 8) :
    Encoding.Statement (.mvnImm cond s rd rotate imm8) := by
  intro _ f hf
  rcases hf with _ | ⟨_, ⟨⟩⟩
  exact Fixed.arm rfl (by simp (disch := omega) only [field_append_lo, field_append_hi]; rfl)
theorem Encoding.mul (cond : Cond) (s : Bool) (rd : RegNum) (rs : RegNum) (rm : RegNum) :
    Encoding.Statement (.mul cond s rd rs rm) := by
  intro _ f hf
  rcases hf with _ | ⟨_, _ | ⟨_, ⟨⟩⟩⟩
  · exact Fixed.arm rfl (by simp (disch := omega) only [field_append_lo, field_append_hi]; rfl)
  · exact Fixed.arm rfl (by simp (disch := omega) only [field_append_lo, field_append_hi]; rfl)
theorem Encoding.mla (cond : Cond) (s : Bool) (rd : RegNum) (rn : RegNum) (rs : RegNum) (rm : RegNum) :
    Encoding.Statement (.mla cond s rd rn rs rm) := by
  intro _ f hf
  rcases hf with _ | ⟨_, _ | ⟨_, ⟨⟩⟩⟩
  · exact Fixed.arm rfl (by simp (disch := omega) only [field_append_lo, field_append_hi]; rfl)
  · exact Fixed.arm rfl (by simp (disch := omega) only [field_append_lo, field_append_hi]; rfl)
theorem Encoding.umull (cond : Cond) (s : Bool) (rdHi : RegNum) (rdLo : RegNum) (rs : RegNum) (rm : RegNum) :
    Encoding.Statement (.umull cond s rdHi rdLo rs rm) := by
  intro _ f hf
  rcases hf with _ | ⟨_, _ | ⟨_, ⟨⟩⟩⟩
  · exact Fixed.arm rfl (by simp (disch := omega) only [field_append_lo, field_append_hi]; rfl)
  · exact Fixed.arm rfl (by simp (disch := omega) only [field_append_lo, field_append_hi]; rfl)
theorem Encoding.umlal (cond : Cond) (s : Bool) (rdHi : RegNum) (rdLo : RegNum) (rs : RegNum) (rm : RegNum) :
    Encoding.Statement (.umlal cond s rdHi rdLo rs rm) := by
  intro _ f hf
  rcases hf with _ | ⟨_, _ | ⟨_, ⟨⟩⟩⟩
  · exact Fixed.arm rfl (by simp (disch := omega) only [field_append_lo, field_append_hi]; rfl)
  · exact Fixed.arm rfl (by simp (disch := omega) only [field_append_lo, field_append_hi]; rfl)
theorem Encoding.smull (cond : Cond) (s : Bool) (rdHi : RegNum) (rdLo : RegNum) (rs : RegNum) (rm : RegNum) :
    Encoding.Statement (.smull cond s rdHi rdLo rs rm) := by
  intro _ f hf
  rcases hf with _ | ⟨_, _ | ⟨_, ⟨⟩⟩⟩
  · exact Fixed.arm rfl (by simp (disch := omega) only [field_append_lo, field_append_hi]; rfl)
  · exact Fixed.arm rfl (by simp (disch := omega) only [field_append_lo, field_append_hi]; rfl)
theorem Encoding.smlal (cond : Cond) (s : Bool) (rdHi : RegNum) (rdLo : RegNum) (rs : RegNum) (rm : RegNum) :
    Encoding.Statement (.smlal cond s rdHi rdLo rs rm) := by
  intro _ f hf
  rcases hf with _ | ⟨_, _ | ⟨_, ⟨⟩⟩⟩
  · exact Fixed.arm rfl (by simp (disch := omega) only [field_append_lo, field_append_hi]; rfl)
  · exact Fixed.arm rfl (by simp (disch := omega) only [field_append_lo, field_append_hi]; rfl)
theorem Encoding.swp (cond : Cond) (rn : RegNum) (rd : RegNum) (rm : RegNum) :
    Encoding.Statement (.swp cond rn rd rm) := by
  intro _ f hf
  rcases hf with _ | ⟨_, _ | ⟨_, ⟨⟩⟩⟩
  · exact Fixed.arm rfl (by simp (disch := omega) only [field_append_lo, field_append_hi]; rfl)
  · exact Fixed.arm rfl (by simp (disch := omega) only [field_append_lo, field_append_hi]; rfl)
theorem Encoding.swpb (cond : Cond) (rn : RegNum) (rd : RegNum) (rm : RegNum) :
    Encoding.Statement (.swpb cond rn rd rm) := by
  intro _ f hf
  rcases hf with _ | ⟨_, _ | ⟨_, ⟨⟩⟩⟩
  · exact Fixed.arm rfl (by simp (disch := omega) only [field_append_lo, field_append_hi]; rfl)
  · exact Fixed.arm rfl (by simp (disch := omega) only [field_append_lo, field_append_hi]; rfl)
theorem Encoding.mrs (cond : Cond) (r : Bool) (rd : RegNum) : Encoding.Statement (.mrs cond r rd) := by
  intro _ f hf
  rcases hf with _ | ⟨_, _ | ⟨_, _ | ⟨_, ⟨⟩⟩⟩⟩
  · exact Fixed.arm rfl (by simp (disch := omega) only [field_append_lo, field_append_hi]; rfl)
  · exact Fixed.arm rfl (by simp (disch := omega) only [field_append_lo, field_append_hi]; rfl)
  · exact Fixed.arm rfl (by simp (disch := omega) only [field_append_lo, field_append_hi]; rfl)
theorem Encoding.msrReg (cond : Cond) (r : Bool) (mask : BitVec 4) (rm : RegNum) :
    Encoding.Statement (.msrReg cond r mask rm) := by
  intro _ f hf
  rcases hf with _ | ⟨_, _ | ⟨_, _ | ⟨_, ⟨⟩⟩⟩⟩
  · exact Fixed.arm rfl (by simp (disch := omega) only [field_append_lo, field_append_hi]; rfl)
  · exact Fixed.arm rfl (by simp (disch := omega) only [field_append_lo, field_append_hi]; rfl)
  · exact Fixed.arm rfl (by simp (disch := omega) only [field_append_lo, field_append_hi]; rfl)
theorem Encoding.msrImm (cond : Cond) (r : Bool) (mask : BitVec 4) (rotate : BitVec 4) (imm8 : BitVec 8) :
    Encoding.Statement (.msrImm cond r mask rotate imm8) := by
  intro _ f hf
  rcases hf with _ | ⟨_, _ | ⟨_, ⟨⟩⟩⟩
  · exact Fixed.arm rfl (by simp (disch := omega) only [field_append_lo, field_append_hi]; rfl)
  · exact Fixed.arm rfl (by simp (disch := omega) only [field_append_lo, field_append_hi]; rfl)
theorem Encoding.bx (cond : Cond) (rm : RegNum) : Encoding.Statement (.bx cond rm) := by
  intro _ f hf
  rcases hf with _ | ⟨_, _ | ⟨_, ⟨⟩⟩⟩
  · exact Fixed.arm rfl (by simp (disch := omega) only [field_append_lo, field_append_hi]; rfl)
  · exact Fixed.arm rfl (by simp (disch := omega) only [field_append_lo, field_append_hi]; rfl)
theorem Encoding.strhReg (cond : Cond) (p : Bool) (u : Bool) (w : Bool) (rn : RegNum) (rd : RegNum) (rm : RegNum) :
    Encoding.Statement (.strhReg cond p u w rn rd rm) := by
  intro _ f hf
  rcases hf with _ | ⟨_, _ | ⟨_, _ | ⟨_, _ | ⟨_, ⟨⟩⟩⟩⟩⟩
  · exact Fixed.arm rfl (by simp (disch := omega) only [field_append_lo, field_append_hi]; rfl)
  · exact Fixed.arm rfl (by simp (disch := omega) only [field_append_lo, field_append_hi]; rfl)
  · exact Fixed.arm rfl (by simp (disch := omega) only [field_append_lo, field_append_hi]; rfl)
  · exact Fixed.arm rfl (by simp (disch := omega) only [field_append_lo, field_append_hi]; rfl)
theorem Encoding.strhImm (cond : Cond) (p : Bool) (u : Bool) (w : Bool) (rn : RegNum) (rd : RegNum) (immH : BitVec 4) (immL : BitVec 4) :
    Encoding.Statement (.strhImm cond p u w rn rd immH immL) := by
  intro _ f hf
  rcases hf with _ | ⟨_, _ | ⟨_, _ | ⟨_, _ | ⟨_, ⟨⟩⟩⟩⟩⟩
  · exact Fixed.arm rfl (by simp (disch := omega) only [field_append_lo, field_append_hi]; rfl)
  · exact Fixed.arm rfl (by simp (disch := omega) only [field_append_lo, field_append_hi]; rfl)
  · exact Fixed.arm rfl (by simp (disch := omega) only [field_append_lo, field_append_hi]; rfl)
  · exact Fixed.arm rfl (by simp (disch := omega) only [field_append_lo, field_append_hi]; rfl)
theorem Encoding.ldrhReg (cond : Cond) (p : Bool) (u : Bool) (w : Bool) (rn : RegNum) (rd : RegNum) (rm : RegNum) :
    Encoding.Statement (.ldrhReg cond p u w rn rd rm) := by
  intro _ f hf
  rcases hf with _ | ⟨_, _ | ⟨_, _ | ⟨_, _ | ⟨_, ⟨⟩⟩⟩⟩⟩
  · exact Fixed.arm rfl (by simp (disch := omega) only [field_append_lo, field_append_hi]; rfl)
  · exact Fixed.arm rfl (by simp (disch := omega) only [field_append_lo, field_append_hi]; rfl)
  · exact Fixed.arm rfl (by simp (disch := omega) only [field_append_lo, field_append_hi]; rfl)
  · exact Fixed.arm rfl (by simp (disch := omega) only [field_append_lo, field_append_hi]; rfl)
theorem Encoding.ldrhImm (cond : Cond) (p : Bool) (u : Bool) (w : Bool) (rn : RegNum) (rd : RegNum) (immH : BitVec 4) (immL : BitVec 4) :
    Encoding.Statement (.ldrhImm cond p u w rn rd immH immL) := by
  intro _ f hf
  rcases hf with _ | ⟨_, _ | ⟨_, _ | ⟨_, _ | ⟨_, ⟨⟩⟩⟩⟩⟩
  · exact Fixed.arm rfl (by simp (disch := omega) only [field_append_lo, field_append_hi]; rfl)
  · exact Fixed.arm rfl (by simp (disch := omega) only [field_append_lo, field_append_hi]; rfl)
  · exact Fixed.arm rfl (by simp (disch := omega) only [field_append_lo, field_append_hi]; rfl)
  · exact Fixed.arm rfl (by simp (disch := omega) only [field_append_lo, field_append_hi]; rfl)
theorem Encoding.ldrsbReg (cond : Cond) (p : Bool) (u : Bool) (w : Bool) (rn : RegNum) (rd : RegNum) (rm : RegNum) :
    Encoding.Statement (.ldrsbReg cond p u w rn rd rm) := by
  intro _ f hf
  rcases hf with _ | ⟨_, _ | ⟨_, _ | ⟨_, _ | ⟨_, ⟨⟩⟩⟩⟩⟩
  · exact Fixed.arm rfl (by simp (disch := omega) only [field_append_lo, field_append_hi]; rfl)
  · exact Fixed.arm rfl (by simp (disch := omega) only [field_append_lo, field_append_hi]; rfl)
  · exact Fixed.arm rfl (by simp (disch := omega) only [field_append_lo, field_append_hi]; rfl)
  · exact Fixed.arm rfl (by simp (disch := omega) only [field_append_lo, field_append_hi]; rfl)
theorem Encoding.ldrsbImm (cond : Cond) (p : Bool) (u : Bool) (w : Bool) (rn : RegNum) (rd : RegNum) (immH : BitVec 4) (immL : BitVec 4) :
    Encoding.Statement (.ldrsbImm cond p u w rn rd immH immL) := by
  intro _ f hf
  rcases hf with _ | ⟨_, _ | ⟨_, _ | ⟨_, _ | ⟨_, ⟨⟩⟩⟩⟩⟩
  · exact Fixed.arm rfl (by simp (disch := omega) only [field_append_lo, field_append_hi]; rfl)
  · exact Fixed.arm rfl (by simp (disch := omega) only [field_append_lo, field_append_hi]; rfl)
  · exact Fixed.arm rfl (by simp (disch := omega) only [field_append_lo, field_append_hi]; rfl)
  · exact Fixed.arm rfl (by simp (disch := omega) only [field_append_lo, field_append_hi]; rfl)
theorem Encoding.ldrshReg (cond : Cond) (p : Bool) (u : Bool) (w : Bool) (rn : RegNum) (rd : RegNum) (rm : RegNum) :
    Encoding.Statement (.ldrshReg cond p u w rn rd rm) := by
  intro _ f hf
  rcases hf with _ | ⟨_, _ | ⟨_, _ | ⟨_, _ | ⟨_, ⟨⟩⟩⟩⟩⟩
  · exact Fixed.arm rfl (by simp (disch := omega) only [field_append_lo, field_append_hi]; rfl)
  · exact Fixed.arm rfl (by simp (disch := omega) only [field_append_lo, field_append_hi]; rfl)
  · exact Fixed.arm rfl (by simp (disch := omega) only [field_append_lo, field_append_hi]; rfl)
  · exact Fixed.arm rfl (by simp (disch := omega) only [field_append_lo, field_append_hi]; rfl)
theorem Encoding.ldrshImm (cond : Cond) (p : Bool) (u : Bool) (w : Bool) (rn : RegNum) (rd : RegNum) (immH : BitVec 4) (immL : BitVec 4) :
    Encoding.Statement (.ldrshImm cond p u w rn rd immH immL) := by
  intro _ f hf
  rcases hf with _ | ⟨_, _ | ⟨_, _ | ⟨_, _ | ⟨_, ⟨⟩⟩⟩⟩⟩
  · exact Fixed.arm rfl (by simp (disch := omega) only [field_append_lo, field_append_hi]; rfl)
  · exact Fixed.arm rfl (by simp (disch := omega) only [field_append_lo, field_append_hi]; rfl)
  · exact Fixed.arm rfl (by simp (disch := omega) only [field_append_lo, field_append_hi]; rfl)
  · exact Fixed.arm rfl (by simp (disch := omega) only [field_append_lo, field_append_hi]; rfl)
theorem Encoding.strImmPre (cond : Cond) (u : Bool) (w : Bool) (rn : RegNum) (rd : RegNum) (imm12 : BitVec 12) :
    Encoding.Statement (.strImmPre cond u w rn rd imm12) := by
  intro _ f hf
  rcases hf with _ | ⟨_, _ | ⟨_, _ | ⟨_, ⟨⟩⟩⟩⟩
  · exact Fixed.arm rfl (by simp (disch := omega) only [field_append_lo, field_append_hi]; rfl)
  · exact Fixed.arm rfl (by simp (disch := omega) only [field_append_lo, field_append_hi]; rfl)
  · exact Fixed.arm rfl (by simp (disch := omega) only [field_append_lo, field_append_hi]; rfl)
theorem Encoding.strImmPost (cond : Cond) (u : Bool) (rn : RegNum) (rd : RegNum) (imm12 : BitVec 12) :
    Encoding.Statement (.strImmPost cond u rn rd imm12) := by
  intro _ f hf
  rcases hf with _ | ⟨_, _ | ⟨_, ⟨⟩⟩⟩
  · exact Fixed.arm rfl (by simp (disch := omega) only [field_append_lo, field_append_hi]; rfl)
  · exact Fixed.arm rfl (by simp (disch := omega) only [field_append_lo, field_append_hi]; rfl)
theorem Encoding.strtImm (cond : Cond) (u : Bool) (rn : RegNum) (rd : RegNum) (imm12 : BitVec 12) :
    Encoding.Statement (.strtImm cond u rn rd imm12) := by
  intro _ f hf
  rcases hf with _ | ⟨_, _ | ⟨_, ⟨⟩⟩⟩
  · exact Fixed.arm rfl (by simp (disch := omega) only [field_append_lo, field_append_hi]; rfl)
  · exact Fixed.arm rfl (by simp (disch := omega) only [field_append_lo, field_append_hi]; rfl)
theorem Encoding.strRegPre (cond : Cond) (u : Bool) (w : Bool) (rn : RegNum) (rd : RegNum) (shiftImm : BitVec 5) (shift : ShiftKind) (rm : RegNum) :
    Encoding.Statement (.strRegPre cond u w rn rd shiftImm shift rm) := by
  intro _ f hf
  rcases hf with _ | ⟨_, _ | ⟨_, _ | ⟨_, _ | ⟨_, ⟨⟩⟩⟩⟩⟩
  · exact Fixed.arm rfl (by simp (disch := omega) only [field_append_lo, field_append_hi]; rfl)
  · exact Fixed.arm rfl (by simp (disch := omega) only [field_append_lo, field_append_hi]; rfl)
  · exact Fixed.arm rfl (by simp (disch := omega) only [field_append_lo, field_append_hi]; rfl)
  · exact Fixed.arm rfl (by simp (disch := omega) only [field_append_lo, field_append_hi]; rfl)
theorem Encoding.strRegPost (cond : Cond) (u : Bool) (rn : RegNum) (rd : RegNum) (shiftImm : BitVec 5) (shift : ShiftKind) (rm : RegNum) :
    Encoding.Statement (.strRegPost cond u rn rd shiftImm shift rm) := by
  intro _ f hf
  rcases hf with _ | ⟨_, _ | ⟨_, _ | ⟨_, ⟨⟩⟩⟩⟩
  · exact Fixed.arm rfl (by simp (disch := omega) only [field_append_lo, field_append_hi]; rfl)
  · exact Fixed.arm rfl (by simp (disch := omega) only [field_append_lo, field_append_hi]; rfl)
  · exact Fixed.arm rfl (by simp (disch := omega) only [field_append_lo, field_append_hi]; rfl)
theorem Encoding.strtReg (cond : Cond) (u : Bool) (rn : RegNum) (rd : RegNum) (shiftImm : BitVec 5) (shift : ShiftKind) (rm : RegNum) :
    Encoding.Statement (.strtReg cond u rn rd shiftImm shift rm) := by
  intro _ f hf
  rcases hf with _ | ⟨_, _ | ⟨_, _ | ⟨_, ⟨⟩⟩⟩⟩
  · exact Fixed.arm rfl (by simp (disch := omega) only [field_append_lo, field_append_hi]; rfl)
  · exact Fixed.arm rfl (by simp (disch := omega) only [field_append_lo, field_append_hi]; rfl)
  · exact Fixed.arm rfl (by simp (disch := omega) only [field_append_lo, field_append_hi]; rfl)
theorem Encoding.ldrImmPre (cond : Cond) (u : Bool) (w : Bool) (rn : RegNum) (rd : RegNum) (imm12 : BitVec 12) :
    Encoding.Statement (.ldrImmPre cond u w rn rd imm12) := by
  intro _ f hf
  rcases hf with _ | ⟨_, _ | ⟨_, _ | ⟨_, ⟨⟩⟩⟩⟩
  · exact Fixed.arm rfl (by simp (disch := omega) only [field_append_lo, field_append_hi]; rfl)
  · exact Fixed.arm rfl (by simp (disch := omega) only [field_append_lo, field_append_hi]; rfl)
  · exact Fixed.arm rfl (by simp (disch := omega) only [field_append_lo, field_append_hi]; rfl)
theorem Encoding.ldrImmPost (cond : Cond) (u : Bool) (rn : RegNum) (rd : RegNum) (imm12 : BitVec 12) :
    Encoding.Statement (.ldrImmPost cond u rn rd imm12) := by
  intro _ f hf
  rcases hf with _ | ⟨_, _ | ⟨_, ⟨⟩⟩⟩
  · exact Fixed.arm rfl (by simp (disch := omega) only [field_append_lo, field_append_hi]; rfl)
  · exact Fixed.arm rfl (by simp (disch := omega) only [field_append_lo, field_append_hi]; rfl)
theorem Encoding.ldrtImm (cond : Cond) (u : Bool) (rn : RegNum) (rd : RegNum) (imm12 : BitVec 12) :
    Encoding.Statement (.ldrtImm cond u rn rd imm12) := by
  intro _ f hf
  rcases hf with _ | ⟨_, _ | ⟨_, ⟨⟩⟩⟩
  · exact Fixed.arm rfl (by simp (disch := omega) only [field_append_lo, field_append_hi]; rfl)
  · exact Fixed.arm rfl (by simp (disch := omega) only [field_append_lo, field_append_hi]; rfl)
theorem Encoding.ldrRegPre (cond : Cond) (u : Bool) (w : Bool) (rn : RegNum) (rd : RegNum) (shiftImm : BitVec 5) (shift : ShiftKind) (rm : RegNum) :
    Encoding.Statement (.ldrRegPre cond u w rn rd shiftImm shift rm) := by
  intro _ f hf
  rcases hf with _ | ⟨_, _ | ⟨_, _ | ⟨_, _ | ⟨_, ⟨⟩⟩⟩⟩⟩
  · exact Fixed.arm rfl (by simp (disch := omega) only [field_append_lo, field_append_hi]; rfl)
  · exact Fixed.arm rfl (by simp (disch := omega) only [field_append_lo, field_append_hi]; rfl)
  · exact Fixed.arm rfl (by simp (disch := omega) only [field_append_lo, field_append_hi]; rfl)
  · exact Fixed.arm rfl (by simp (disch := omega) only [field_append_lo, field_append_hi]; rfl)
theorem Encoding.ldrRegPost (cond : Cond) (u : Bool) (rn : RegNum) (rd : RegNum) (shiftImm : BitVec 5) (shift : ShiftKind) (rm : RegNum) :
    Encoding.Statement (.ldrRegPost cond u rn rd shiftImm shift rm) := by
  intro _ f hf
  rcases hf with _ | ⟨_, _ | ⟨_, _ | ⟨_, ⟨⟩⟩⟩⟩
  · exact Fixed.arm rfl (by simp (disch := omega) only [field_append_lo, field_append_hi]; rfl)
  · exact Fixed.arm rfl (by simp (disch := omega) only [field_append_lo, field_append_hi]; rfl)
  · exact Fixed.arm rfl (by simp (disch := omega) only [field_append_lo, field_append_hi]; rfl)
theorem Encoding.ldrtReg (cond : Cond) (u : Bool) (rn : RegNum) (rd : RegNum) (shiftImm : BitVec 5) (shift : ShiftKind) (rm : RegNum) :
    Encoding.Statement (.ldrtReg cond u rn rd shiftImm shift rm) := by
  intro _ f hf
  rcases hf with _ | ⟨_, _ | ⟨_, _ | ⟨_, ⟨⟩⟩⟩⟩
  · exact Fixed.arm rfl (by simp (disch := omega) only [field_append_lo, field_append_hi]; rfl)
  · exact Fixed.arm rfl (by simp (disch := omega) only [field_append_lo, field_append_hi]; rfl)
  · exact Fixed.arm rfl (by simp (disch := omega) only [field_append_lo, field_append_hi]; rfl)
theorem Encoding.strbImmPre (cond : Cond) (u : Bool) (w : Bool) (rn : RegNum) (rd : RegNum) (imm12 : BitVec 12) :
    Encoding.Statement (.strbImmPre cond u w rn rd imm12) := by
  intro _ f hf
  rcases hf with _ | ⟨_, _ | ⟨_, _ | ⟨_, ⟨⟩⟩⟩⟩
  · exact Fixed.arm rfl (by simp (disch := omega) only [field_append_lo, field_append_hi]; rfl)
  · exact Fixed.arm rfl (by simp (disch := omega) only [field_append_lo, field_append_hi]; rfl)
  · exact Fixed.arm rfl (by simp (disch := omega) only [field_append_lo, field_append_hi]; rfl)
theorem Encoding.strbImmPost (cond : Cond) (u : Bool) (rn : RegNum) (rd : RegNum) (imm12 : BitVec 12) :
    Encoding.Statement (.strbImmPost cond u rn rd imm12) := by
  intro _ f hf
  rcases hf with _ | ⟨_, _ | ⟨_, ⟨⟩⟩⟩
  · exact Fixed.arm rfl (by simp (disch := omega) only [field_append_lo, field_append_hi]; rfl)
  · exact Fixed.arm rfl (by simp (disch := omega) only [field_append_lo, field_append_hi]; rfl)
theorem Encoding.strbtImm (cond : Cond) (u : Bool) (rn : RegNum) (rd : RegNum) (imm12 : BitVec 12) :
    Encoding.Statement (.strbtImm cond u rn rd imm12) := by
  intro _ f hf
  rcases hf with _ | ⟨_, _ | ⟨_, ⟨⟩⟩⟩
  · exact Fixed.arm rfl (by simp (disch := omega) only [field_append_lo, field_append_hi]; rfl)
  · exact Fixed.arm rfl (by simp (disch := omega) only [field_append_lo, field_append_hi]; rfl)
theorem Encoding.strbRegPre (cond : Cond) (u : Bool) (w : Bool) (rn : RegNum) (rd : RegNum) (shiftImm : BitVec 5) (shift : ShiftKind) (rm : RegNum) :
    Encoding.Statement (.strbRegPre cond u w rn rd shiftImm shift rm) := by
  intro _ f hf
  rcases hf with _ | ⟨_, _ | ⟨_, _ | ⟨_, _ | ⟨_, ⟨⟩⟩⟩⟩⟩
  · exact Fixed.arm rfl (by simp (disch := omega) only [field_append_lo, field_append_hi]; rfl)
  · exact Fixed.arm rfl (by simp (disch := omega) only [field_append_lo, field_append_hi]; rfl)
  · exact Fixed.arm rfl (by simp (disch := omega) only [field_append_lo, field_append_hi]; rfl)
  · exact Fixed.arm rfl (by simp (disch := omega) only [field_append_lo, field_append_hi]; rfl)
theorem Encoding.strbRegPost (cond : Cond) (u : Bool) (rn : RegNum) (rd : RegNum) (shiftImm : BitVec 5) (shift : ShiftKind) (rm : RegNum) :
    Encoding.Statement (.strbRegPost cond u rn rd shiftImm shift rm) := by
  intro _ f hf
  rcases hf with _ | ⟨_, _ | ⟨_, _ | ⟨_, ⟨⟩⟩⟩⟩
  · exact Fixed.arm rfl (by simp (disch := omega) only [field_append_lo, field_append_hi]; rfl)
  · exact Fixed.arm rfl (by simp (disch := omega) only [field_append_lo, field_append_hi]; rfl)
  · exact Fixed.arm rfl (by simp (disch := omega) only [field_append_lo, field_append_hi]; rfl)
theorem Encoding.strbtReg (cond : Cond) (u : Bool) (rn : RegNum) (rd : RegNum) (shiftImm : BitVec 5) (shift : ShiftKind) (rm : RegNum) :
    Encoding.Statement (.strbtReg cond u rn rd shiftImm shift rm) := by
  intro _ f hf
  rcases hf with _ | ⟨_, _ | ⟨_, _ | ⟨_, ⟨⟩⟩⟩⟩
  · exact Fixed.arm rfl (by simp (disch := omega) only [field_append_lo, field_append_hi]; rfl)
  · exact Fixed.arm rfl (by simp (disch := omega) only [field_append_lo, field_append_hi]; rfl)
  · exact Fixed.arm rfl (by simp (disch := omega) only [field_append_lo, field_append_hi]; rfl)
theorem Encoding.ldrbImmPre (cond : Cond) (u : Bool) (w : Bool) (rn : RegNum) (rd : RegNum) (imm12 : BitVec 12) :
    Encoding.Statement (.ldrbImmPre cond u w rn rd imm12) := by
  intro _ f hf
  rcases hf with _ | ⟨_, _ | ⟨_, _ | ⟨_, ⟨⟩⟩⟩⟩
  · exact Fixed.arm rfl (by simp (disch := omega) only [field_append_lo, field_append_hi]; rfl)
  · exact Fixed.arm rfl (by simp (disch := omega) only [field_append_lo, field_append_hi]; rfl)
  · exact Fixed.arm rfl (by simp (disch := omega) only [field_append_lo, field_append_hi]; rfl)
theorem Encoding.ldrbImmPost (cond : Cond) (u : Bool) (rn : RegNum) (rd : RegNum) (imm12 : BitVec 12) :
    Encoding.Statement (.ldrbImmPost cond u rn rd imm12) := by
  intro _ f hf
  rcases hf with _ | ⟨_, _ | ⟨_, ⟨⟩⟩⟩
  · exact Fixed.arm rfl (by simp (disch := omega) only [field_append_lo, field_append_hi]; rfl)
  · exact Fixed.arm rfl (by simp (disch := omega) only [field_append_lo, field_append_hi]; rfl)
theorem Encoding.ldrbtImm (cond : Cond) (u : Bool) (rn : RegNum) (rd : RegNum) (imm12 : BitVec 12) :
    Encoding.Statement (.ldrbtImm cond u rn rd imm12) := by
  intro _ f hf
  rcases hf with _ | ⟨_, _ | ⟨_, ⟨⟩⟩⟩
  · exact Fixed.arm rfl (by simp (disch := omega) only [field_append_lo, field_append_hi]; rfl)
  · exact Fixed.arm rfl (by simp (disch := omega) only [field_append_lo, field_append_hi]; rfl)
theorem Encoding.ldrbRegPre (cond : Cond) (u : Bool) (w : Bool) (rn : RegNum) (rd : RegNum) (shiftImm : BitVec 5) (shift : ShiftKind) (rm : RegNum) :
    Encoding.Statement (.ldrbRegPre cond u w rn rd shiftImm shift rm) := by
  intro _ f hf
  rcases hf with _ | ⟨_, _ | ⟨_, _ | ⟨_, _ | ⟨_, ⟨⟩⟩⟩⟩⟩
  · exact Fixed.arm rfl (by simp (disch := omega) only [field_append_lo, field_append_hi]; rfl)
  · exact Fixed.arm rfl (by simp (disch := omega) only [field_append_lo, field_append_hi]; rfl)
  · exact Fixed.arm rfl (by simp (disch := omega) only [field_append_lo, field_append_hi]; rfl)
  · exact Fixed.arm rfl (by simp (disch := omega) only [field_append_lo, field_append_hi]; rfl)
theorem Encoding.ldrbRegPost (cond : Cond) (u : Bool) (rn : RegNum) (rd : RegNum) (shiftImm : BitVec 5) (shift : ShiftKind) (rm : RegNum) :
    Encoding.Statement (.ldrbRegPost cond u rn rd shiftImm shift rm) := by
  intro _ f hf
  rcases hf with _ | ⟨_, _ | ⟨_, _ | ⟨_, ⟨⟩⟩⟩⟩
  · exact Fixed.arm rfl (by simp (disch := omega) only [field_append_lo, field_append_hi]; rfl)
  · exact Fixed.arm rfl (by simp (disch := omega) only [field_append_lo, field_append_hi]; rfl)
  · exact Fixed.arm rfl (by simp (disch := omega) only [field_append_lo, field_append_hi]; rfl)
theorem Encoding.ldrbtReg (cond : Cond) (u : Bool) (rn : RegNum) (rd : RegNum) (shiftImm : BitVec 5) (shift : ShiftKind) (rm : RegNum) :
    Encoding.Statement (.ldrbtReg cond u rn rd shiftImm shift rm) := by
  intro _ f hf
  rcases hf with _ | ⟨_, _ | ⟨_, _ | ⟨_, ⟨⟩⟩⟩⟩
  · exact Fixed.arm rfl (by simp (disch := omega) only [field_append_lo, field_append_hi]; rfl)
  · exact Fixed.arm rfl (by simp (disch := omega) only [field_append_lo, field_append_hi]; rfl)
  · exact Fixed.arm rfl (by simp (disch := omega) only [field_append_lo, field_append_hi]; rfl)
theorem Encoding.stm (cond : Cond) (p : Bool) (u : Bool) (w : Bool) (rn : RegNum) (list : BitVec 16) :
    Encoding.Statement (.stm cond p u w rn list) := by
  intro _ f hf
  rcases hf with _ | ⟨_, _ | ⟨_, _ | ⟨_, ⟨⟩⟩⟩⟩
  · exact Fixed.arm rfl (by simp (disch := omega) only [field_append_lo, field_append_hi]; rfl)
  · exact Fixed.arm rfl (by simp (disch := omega) only [field_append_lo, field_append_hi]; rfl)
  · exact Fixed.arm rfl (by simp (disch := omega) only [field_append_lo, field_append_hi]; rfl)
theorem Encoding.ldm (cond : Cond) (p : Bool) (u : Bool) (w : Bool) (rn : RegNum) (list : BitVec 16) :
    Encoding.Statement (.ldm cond p u w rn list) := by
  intro _ f hf
  rcases hf with _ | ⟨_, _ | ⟨_, _ | ⟨_, ⟨⟩⟩⟩⟩
  · exact Fixed.arm rfl (by simp (disch := omega) only [field_append_lo, field_append_hi]; rfl)
  · exact Fixed.arm rfl (by simp (disch := omega) only [field_append_lo, field_append_hi]; rfl)
  · exact Fixed.arm rfl (by simp (disch := omega) only [field_append_lo, field_append_hi]; rfl)
theorem Encoding.stmS (cond : Cond) (p : Bool) (u : Bool) (w : Bool) (rn : RegNum) (list : BitVec 16) :
    Encoding.Statement (.stmS cond p u w rn list) := by
  intro _ f hf
  rcases hf with _ | ⟨_, _ | ⟨_, _ | ⟨_, ⟨⟩⟩⟩⟩
  · exact Fixed.arm rfl (by simp (disch := omega) only [field_append_lo, field_append_hi]; rfl)
  · exact Fixed.arm rfl (by simp (disch := omega) only [field_append_lo, field_append_hi]; rfl)
  · exact Fixed.arm rfl (by simp (disch := omega) only [field_append_lo, field_append_hi]; rfl)
theorem Encoding.ldmS (cond : Cond) (p : Bool) (u : Bool) (w : Bool) (rn : RegNum) (list : BitVec 16) :
    Encoding.Statement (.ldmS cond p u w rn list) := by
  intro _ f hf
  rcases hf with _ | ⟨_, _ | ⟨_, _ | ⟨_, ⟨⟩⟩⟩⟩
  · exact Fixed.arm rfl (by simp (disch := omega) only [field_append_lo, field_append_hi]; rfl)
  · exact Fixed.arm rfl (by simp (disch := omega) only [field_append_lo, field_append_hi]; rfl)
  · exact Fixed.arm rfl (by simp (disch := omega) only [field_append_lo, field_append_hi]; rfl)
theorem Encoding.b (cond : Cond) (offset24 : BitVec 24) : Encoding.Statement (.b cond offset24) := by
  intro _ f hf
  rcases hf with _ | ⟨_, ⟨⟩⟩
  exact Fixed.arm rfl (by simp (disch := omega) only [field_append_lo, field_append_hi]; rfl)
theorem Encoding.bl (cond : Cond) (offset24 : BitVec 24) : Encoding.Statement (.bl cond offset24) := by
  intro _ f hf
  rcases hf with _ | ⟨_, ⟨⟩⟩
  exact Fixed.arm rfl (by simp (disch := omega) only [field_append_lo, field_append_hi]; rfl)
theorem Encoding.swi (cond : Cond) (comment24 : BitVec 24) : Encoding.Statement (.swi cond comment24) := by
  intro _ f hf
  rcases hf with _ | ⟨_, ⟨⟩⟩
  exact Fixed.arm rfl (by simp (disch := omega) only [field_append_lo, field_append_hi]; rfl)
theorem Encoding.ldcStc (cond : Cond) (p : Bool) (u : Bool) (n : Bool) (w : Bool) (l : Bool) (rn : RegNum) (crd : BitVec 4) (cpNum : BitVec 4) (offset8 : BitVec 8) :
    Encoding.Statement (.ldcStc cond p u n w l rn crd cpNum offset8) := by
  intro _ f hf
  rcases hf with _ | ⟨_, ⟨⟩⟩
  exact Fixed.arm rfl (by simp (disch := omega) only [field_append_lo, field_append_hi]; rfl)
theorem Encoding.cdp (cond : Cond) (op1 : BitVec 4) (crn : BitVec 4) (crd : BitVec 4) (cpNum : BitVec 4) (op2 : BitVec 3) (crm : BitVec 4) :
    Encoding.Statement (.cdp cond op1 crn crd cpNum op2 crm) := by
  intro _ f hf
  rcases hf with _ | ⟨_, _ | ⟨_, ⟨⟩⟩⟩
  · exact Fixed.arm rfl (by simp (disch := omega) only [field_append_lo, field_append_hi]; rfl)
  · exact Fixed.arm rfl (by simp (disch := omega) only [field_append_lo, field_append_hi]; rfl)
theorem Encoding.mrcMcr (cond : Cond) (op1 : BitVec 3) (l : Bool) (crn : BitVec 4) (rd : RegNum) (cpNum : BitVec 4) (op2 : BitVec 3) (crm : BitVec 4) :
    Encoding.Statement (.mrcMcr cond op1 l crn rd cpNum op2 crm) := by
  intro _ f hf
  rcases hf with _ | ⟨_, _ | ⟨_, ⟨⟩⟩⟩
  · exact Fixed.arm rfl (by simp (disch := omega) only [field_append_lo, field_append_hi]; rfl)
  · exact Fixed.arm rfl (by simp (disch := omega) only [field_append_lo, field_append_hi]; rfl)
theorem Encoding.undefMul00001 (w : Word) : Encoding.Statement (.undefMul00001 w) := by
  intro h f hf
  rcases hf with _ | ⟨_, _ | ⟨_, ⟨⟩⟩⟩
  · exact Fixed.arm rfl (field_of_inRow 4 4 9 h (by decide) (by decide))
  · exact Fixed.arm rfl (field_of_inRow 22 6 1 h (by decide) (by decide))
theorem Encoding.undefMul00011 (w : Word) : Encoding.Statement (.undefMul00011 w) := by
  intro h f hf
  rcases hf with _ | ⟨_, _ | ⟨_, ⟨⟩⟩⟩
  · exact Fixed.arm rfl (field_of_inRow 4 4 9 h (by decide) (by decide))
  · exact Fixed.arm rfl (field_of_inRow 23 5 3 h (by decide) (by decide))
theorem Encoding.undefSwpX1 (w : Word) : Encoding.Statement (.undefSwpX1 w) := by
  intro h f hf
  rcases hf with _ | ⟨_, _ | ⟨_, _ | ⟨_, ⟨⟩⟩⟩⟩
  · exact Fixed.arm rfl (field_of_inRow 4 4 9 h (by decide) (by decide))
  · exact Fixed.arm rfl (field_of_inRow 20 1 1 h (by decide) (by decide))
  · exact Fixed.arm rfl (field_of_inRow 23 5 2 h (by decide) (by decide))
theorem Encoding.undefSwp10 (w : Word) : Encoding.Statement (.undefSwp10 w) := by
  intro h f hf
  rcases hf with _ | ⟨_, _ | ⟨_, _ | ⟨_, ⟨⟩⟩⟩⟩
  · exact Fixed.arm rfl (field_of_inRow 4 4 9 h (by decide) (by decide))
  · exact Fixed.arm rfl (field_of_inRow 20 2 2 h (by decide) (by decide))
  · exact Fixed.arm rfl (field_of_inRow 23 5 2 h (by decide) (by decide))
theorem Encoding.undefLdrdStrd (w : Word) : Encoding.Statement (.undefLdrdStrd w) := by
  intro h f hf
  rcases hf with _ | ⟨_, _ | ⟨_, _ | ⟨_, _ | ⟨_, ⟨⟩⟩⟩⟩⟩
  · exact Fixed.arm rfl (field_of_inRow 4 1 1 h (by decide) (by decide))
  · exact Fixed.arm rfl (field_of_inRow 6 2 3 h (by decide) (by decide))
  · exact Fixed.arm rfl (field_of_inRow 20 1 0 h (by decide) (by decide))
  · exact Fixed.arm rfl (field_of_inRow 25 3 0 h (by decide) (by decide))
theorem Encoding.undefMiscBx00 (w : Word) : Encoding.Statement (.undefMiscBx00 w) := by
  intro h f hf
  rcases hf with _ | ⟨_, _ | ⟨_, ⟨⟩⟩⟩
  · exact Fixed.arm rfl (field_of_inRow 4 4 1 h (by decide) (by decide))
  · exact Fixed.arm rfl (field_of_inRow 20 8 16 h (by decide) (by decide))
theorem Encoding.undefMiscBx10 (w : Word) : Encoding.Statement (.undefMiscBx10 w) := by
  intro h f hf
  rcases hf with _ | ⟨_, _ | ⟨_, ⟨⟩⟩⟩
  · exact Fixed.arm rfl (field_of_inRow 4 4 1 h (by decide) (by decide))
  · exact Fixed.arm rfl (field_of_inRow 20 8 20 h (by decide) (by decide))
theorem Encoding.undefMiscBx11 (w : Word) : Encoding.Statement (.undefMiscBx11 w) := by
  intro h f hf
  rcases hf with _ | ⟨_, _ | ⟨_, ⟨⟩⟩⟩
  · exact Fixed.arm rfl (field_of_inRow 4 4 1 h (by decide) (by decide))
  · exact Fixed.arm rfl (field_of_inRow 20 8 22 h (by decide) (by decide))
theorem Encoding.undefMisc01xx (w : Word) : Encoding.Statement (.undefMisc01xx w) := by
  intro h f hf
  rcases hf with _ | ⟨_, _ | ⟨_, _ | ⟨_, ⟨⟩⟩⟩⟩
  · exact Fixed.arm rfl (field_of_inRow 6 2 1 h (by decide) (by decide))
  · exact Fixed.arm rfl (field_of_inRow 20 1 0 h (by decide) (by decide))
  · exact Fixed.arm rfl (field_of_inRow 23 5 2 h (by decide) (by decide))
theorem Encoding.undefMisc001x (w : Word) : Encoding.Statement (.undefMisc001x w) := by
  intro h f hf
  rcases hf with _ | ⟨_, _ | ⟨_, _ | ⟨_, ⟨⟩⟩⟩⟩
  · exact Fixed.arm rfl (field_of_inRow 5 3 1 h (by decide) (by decide))
  · exact Fixed.arm rfl (field_of_inRow 20 1 0 h (by decide) (by decide))
  · exact Fixed.arm rfl (field_of_inRow 23 5 2 h (by decide) (by decide))
theorem Encoding.undefMisc1xx0 (w : Word) : Encoding.Statement (.undefMisc1xx0 w) := by
  intro h f hf
  rcases hf with _ | ⟨_, _ | ⟨_, _ | ⟨_, _ | ⟨_, ⟨⟩⟩⟩⟩⟩
  · exact Fixed.arm rfl (field_of_inRow 4 1 0 h (by decide) (by decide))
  · exact Fixed.arm rfl (field_of_inRow 7 1 1 h (by decide) (by decide))
  · exact Fixed.arm rfl (field_of_inRow 20 1 0 h (by decide) (by decide))
  · exact Fixed.arm rfl (field_of_inRow 23 5 2 h (by decide) (by decide))
theorem Encoding.undefMovStatus (w : Word) : Encoding.Statement (.undefMovStatus w) := by
  intro h f hf
  rcases hf with _ | ⟨_, _ | ⟨_, ⟨⟩⟩⟩
  · exact Fixed.arm rfl (field_of_inRow 20 2 0 h (by decide) (by decide))
  · exact Fixed.arm rfl (field_of_inRow 23 5 6 h (by decide) (by decide))
theorem Encoding.undefMedia (w : Word) : Encoding.Statement (.undefMedia w) := by
  intro h f hf
  rcases hf with _ | ⟨_, _ | ⟨_, ⟨⟩⟩⟩
  · exact Fixed.arm rfl (field_of_inRow 4 1 1 h (by decide) (by decide))
  · exact Fixed.arm rfl (field_of_inRow 25 3 3 h (by decide) (by decide))
theorem Encoding.tLslImm (offset5 : BitVec 5) (rs : LowReg) (rd : LowReg) :
    Encoding.Statement (.tLslImm offset5 rs rd) := by
  intro _ f hf
  rcases hf with _ | ⟨_, ⟨⟩⟩
  exact Fixed.thumb rfl (by simp (disch := omega) only [field_append_lo, field_append_hi]; rfl)
theorem Encoding.tLsrImm (offset5 : BitVec 5) (rs : LowReg) (rd : LowReg) :
    Encoding.Statement (.tLsrImm offset5 rs rd) := by
  intro _ f hf
  rcases hf with _ | ⟨_, ⟨⟩⟩
  exact Fixed.thumb rfl (by simp (disch := omega) only [field_append_lo, field_append_hi]; rfl)
theorem Encoding.tAsrImm (offset5 : BitVec 5) (rs : LowReg) (rd : LowReg) :
    Encoding.Statement (.tAsrImm offset5 rs rd) := by
  intro _ f hf
  rcases hf with _ | ⟨_, ⟨⟩⟩
  exact Fixed.thumb rfl (by simp (disch := omega) only [field_append_lo, field_append_hi]; rfl)
theorem Encoding.tAddReg (rn : LowReg) (rs : LowReg) (rd : LowReg) : Encoding.Statement (.tAddReg rn rs rd) := by
  intro _ f hf
  rcases hf with _ | ⟨_, ⟨⟩⟩
  exact Fixed.thumb rfl (by simp (disch := omega) only [field_append_lo, field_append_hi]; rfl)
theorem Encoding.tSubReg (rn : LowReg) (rs : LowReg) (rd : LowReg) : Encoding.Statement (.tSubReg rn rs rd) := by
  intro _ f hf
  rcases hf with _ | ⟨_, ⟨⟩⟩
  exact Fixed.thumb rfl (by simp (disch := omega) only [field_append_lo, field_append_hi]; rfl)
theorem Encoding.tAddImm3 (offset3 : BitVec 3) (rs : LowReg) (rd : LowReg) :
    Encoding.Statement (.tAddImm3 offset3 rs rd) := by
  intro _ f hf
  rcases hf with _ | ⟨_, ⟨⟩⟩
  exact Fixed.thumb rfl (by simp (disch := omega) only [field_append_lo, field_append_hi]; rfl)
theorem Encoding.tSubImm3 (offset3 : BitVec 3) (rs : LowReg) (rd : LowReg) :
    Encoding.Statement (.tSubImm3 offset3 rs rd) := by
  intro _ f hf
  rcases hf with _ | ⟨_, ⟨⟩⟩
  exact Fixed.thumb rfl (by simp (disch := omega) only [field_append_lo, field_append_hi]; rfl)
theorem Encoding.tMovImm8 (rd : LowReg) (offset8 : BitVec 8) : Encoding.Statement (.tMovImm8 rd offset8) := by
  intro _ f hf
  rcases hf with _ | ⟨_, ⟨⟩⟩
  exact Fixed.thumb rfl (by simp (disch := omega) only [field_append_lo, field_append_hi]; rfl)
theorem Encoding.tCmpImm8 (rd : LowReg) (offset8 : BitVec 8) : Encoding.Statement (.tCmpImm8 rd offset8) := by
  intro _ f hf
  rcases hf with _ | ⟨_, ⟨⟩⟩
  exact Fixed.thumb rfl (by simp (disch := omega) only [field_append_lo, field_append_hi]; rfl)
theorem Encoding.tAddImm8 (rd : LowReg) (offset8 : BitVec 8) : Encoding.Statement (.tAddImm8 rd offset8) := by
  intro _ f hf
  rcases hf with _ | ⟨_, ⟨⟩⟩
  exact Fixed.thumb rfl (by simp (disch := omega) only [field_append_lo, field_append_hi]; rfl)
theorem Encoding.tSubImm8 (rd : LowReg) (offset8 : BitVec 8) : Encoding.Statement (.tSubImm8 rd offset8) := by
  intro _ f hf
  rcases hf with _ | ⟨_, ⟨⟩⟩
  exact Fixed.thumb rfl (by simp (disch := omega) only [field_append_lo, field_append_hi]; rfl)
theorem Encoding.tAnd (rs : LowReg) (rd : LowReg) : Encoding.Statement (.tAnd rs rd) := by
  intro _ f hf
  rcases hf with _ | ⟨_, ⟨⟩⟩
  exact Fixed.thumb rfl (by simp (disch := omega) only [field_append_lo, field_append_hi]; rfl)
theorem Encoding.tEor (rs : LowReg) (rd : LowReg) : Encoding.Statement (.tEor rs rd) := by
  intro _ f hf
  rcases hf with _ | ⟨_, ⟨⟩⟩
  exact Fixed.thumb rfl (by simp (disch := omega) only [field_append_lo, field_append_hi]; rfl)
theorem Encoding.tLslReg (rs : LowReg) (rd : LowReg) : Encoding.Statement (.tLslReg rs rd) := by
  intro _ f hf
  rcases hf with _ | ⟨_, ⟨⟩⟩
  exact Fixed.thumb rfl (by simp (disch := omega) only [field_append_lo, field_append_hi]; rfl)
theorem Encoding.tLsrReg (rs : LowReg) (rd : LowReg) : Encoding.Statement (.tLsrReg rs rd) := by
  intro _ f hf
  rcases hf with _ | ⟨_, ⟨⟩⟩
  exact Fixed.thumb rfl (by simp (disch := omega) only [field_append_lo, field_append_hi]; rfl)
theorem Encoding.tAsrReg (rs : LowReg) (rd : LowReg) : Encoding.Statement (.tAsrReg rs rd) := by
  intro _ f hf
  rcases hf with _ | ⟨_, ⟨⟩⟩
  exact Fixed.thumb rfl (by simp (disch := omega) only [field_append_lo, field_append_hi]; rfl)
theorem Encoding.tAdc (rs : LowReg) (rd : LowReg) : Encoding.Statement (.tAdc rs rd) := by
  intro _ f hf
  rcases hf with _ | ⟨_, ⟨⟩⟩
  exact Fixed.thumb rfl (by simp (disch := omega) only [field_append_lo, field_append_hi]; rfl)
theorem Encoding.tSbc (rs : LowReg) (rd : LowReg) : Encoding.Statement (.tSbc rs rd) := by
  intro _ f hf
  rcases hf with _ | ⟨_, ⟨⟩⟩
  exact Fixed.thumb rfl (by simp (disch := omega) only [field_append_lo, field_append_hi]; rfl)
theorem Encoding.tRorReg (rs : LowReg) (rd : LowReg) : Encoding.Statement (.tRorReg rs rd) := by
  intro _ f hf
  rcases hf with _ | ⟨_, ⟨⟩⟩
  exact Fixed.thumb rfl (by simp (disch := omega) only [field_append_lo, field_append_hi]; rfl)
theorem Encoding.tTst (rs : LowReg) (rd : LowReg) : Encoding.Statement (.tTst rs rd) := by
  intro _ f hf
  rcases hf with _ | ⟨_, ⟨⟩⟩
  exact Fixed.thumb rfl (by simp (disch := omega) only [field_append_lo, field_append_hi]; rfl)
theorem Encoding.tNeg (rs : LowReg) (rd : LowReg) : Encoding.Statement (.tNeg rs rd) := by
  intro _ f hf
  rcases hf with _ | ⟨_, ⟨⟩⟩
  exact Fixed.thumb rfl (by simp (disch := omega) only [field_append_lo, field_append_hi]; rfl)
theorem Encoding.tCmpReg (rs : LowReg) (rd : LowReg) : Encoding.Statement (.tCmpReg rs rd) := by
  intro _ f hf
  rcases hf with _ | ⟨_, ⟨⟩⟩
  exact Fixed.thumb rfl (by simp (disch := omega) only [field_append_lo, field_append_hi]; rfl)
theorem Encoding.tCmn (rs : LowReg) (rd : LowReg) : Encoding.Statement (.tCmn rs rd) := by
  intro _ f hf
  rcases hf with _ | ⟨_, ⟨⟩⟩
  exact Fixed.thumb rfl (by simp (disch := omega) only [field_append_lo, field_append_hi]; rfl)
theorem Encoding.tOrr (rs : LowReg) (rd : LowReg) : Encoding.Statement (.tOrr rs rd) := by
  intro _ f hf
  rcases hf with _ | ⟨_, ⟨⟩⟩
  exact Fixed.thumb rfl (by simp (disch := omega) only [field_append_lo, field_append_hi]; rfl)
theorem Encoding.tMul (rs : LowReg) (rd : LowReg) : Encoding.Statement (.tMul rs rd) := by
  intro _ f hf
  rcases hf with _ | ⟨_, ⟨⟩⟩
  exact Fixed.thumb rfl (by simp (disch := omega) only [field_append_lo, field_append_hi]; rfl)
theorem Encoding.tBic (rs : LowReg) (rd : LowReg) : Encoding.Statement (.tBic rs rd) := by
  intro _ f hf
  rcases hf with _ | ⟨_, ⟨⟩⟩
  exact Fixed.thumb rfl (by simp (disch := omega) only [field_append_lo, field_append_hi]; rfl)
theorem Encoding.tMvn (rs : LowReg) (rd : LowReg) : Encoding.Statement (.tMvn rs rd) := by
  intro _ f hf
  rcases hf with _ | ⟨_, ⟨⟩⟩
  exact Fixed.thumb rfl (by simp (disch := omega) only [field_append_lo, field_append_hi]; rfl)
theorem Encoding.tAddHi (h1 : Bool) (h2 : Bool) (rs : LowReg) (rd : LowReg) :
    Encoding.Statement (.tAddHi h1 h2 rs rd) := by
  intro _ f hf
  rcases hf with _ | ⟨_, ⟨⟩⟩
  exact Fixed.thumb rfl (by simp (disch := omega) only [field_append_lo, field_append_hi]; rfl)
theorem Encoding.tCmpHi (h1 : Bool) (h2 : Bool) (rs : LowReg) (rd : LowReg) :
    Encoding.Statement (.tCmpHi h1 h2 rs rd) := by
  intro _ f hf
  rcases hf with _ | ⟨_, ⟨⟩⟩
  exact Fixed.thumb rfl (by simp (disch := omega) only [field_append_lo, field_append_hi]; rfl)
theorem Encoding.tMovHi (h1 : Bool) (h2 : Bool) (rs : LowReg) (rd : LowReg) :
    Encoding.Statement (.tMovHi h1 h2 rs rd) := by
  intro _ f hf
  rcases hf with _ | ⟨_, ⟨⟩⟩
  exact Fixed.thumb rfl (by simp (disch := omega) only [field_append_lo, field_append_hi]; rfl)
theorem Encoding.tBx (h1 : Bool) (h2 : Bool) (rs : LowReg) (rd : LowReg) :
    Encoding.Statement (.tBx h1 h2 rs rd) := by
  intro _ f hf
  rcases hf with _ | ⟨_, ⟨⟩⟩
  exact Fixed.thumb rfl (by simp (disch := omega) only [field_append_lo, field_append_hi]; rfl)
theorem Encoding.tLdrPc (rd : LowReg) (word8 : BitVec 8) : Encoding.Statement (.tLdrPc rd word8) := by
  intro _ f hf
  rcases hf with _ | ⟨_, ⟨⟩⟩
  exact Fixed.thumb rfl (by simp (disch := omega) only [field_append_lo, field_append_hi]; rfl)
theorem Encoding.tStrReg (ro : LowReg) (rb : LowReg) (rd : LowReg) : Encoding.Statement (.tStrReg ro rb rd) := by
  intro _ f hf
  rcases hf with _ | ⟨_, ⟨⟩⟩
  exact Fixed.thumb rfl (by simp (disch := omega) only [field_append_lo, field_append_hi]; rfl)
theorem Encoding.tStrbReg (ro : LowReg) (rb : LowReg) (rd : LowReg) : Encoding.Statement (.tStrbReg ro rb rd) := by
  intro _ f hf
  rcases hf with _ | ⟨_, ⟨⟩⟩
  exact Fixed.thumb rfl (by simp (disch := omega) only [field_append_lo, field_append_hi]; rfl)
theorem Encoding.tLdrReg (ro : LowReg) (rb : LowReg) (rd : LowReg) : Encoding.Statement (.tLdrReg ro rb rd) := by
  intro _ f hf
  rcases hf with _ | ⟨_, ⟨⟩⟩
  exact Fixed.thumb rfl (by simp (disch := omega) only [field_append_lo, field_append_hi]; rfl)
theorem Encoding.tLdrbReg (ro : LowReg) (rb : LowReg) (rd : LowReg) : Encoding.Statement (.tLdrbReg ro rb rd) := by
  intro _ f hf
  rcases hf with _ | ⟨_, ⟨⟩⟩
  exact Fixed.thumb rfl (by simp (disch := omega) only [field_append_lo, field_append_hi]; rfl)
theorem Encoding.tStrhReg (ro : LowReg) (rb : LowReg) (rd : LowReg) : Encoding.Statement (.tStrhReg ro rb rd) := by
  intro _ f hf
  rcases hf with _ | ⟨_, ⟨⟩⟩
  exact Fixed.thumb rfl (by simp (disch := omega) only [field_append_lo, field_append_hi]; rfl)
theorem Encoding.tLdsbReg (ro : LowReg) (rb : LowReg) (rd : LowReg) : Encoding.Statement (.tLdsbReg ro rb rd) := by
  intro _ f hf
  rcases hf with _ | ⟨_, ⟨⟩⟩
  exact Fixed.thumb rfl (by simp (disch := omega) only [field_append_lo, field_append_hi]; rfl)
theorem Encoding.tLdrhReg (ro : LowReg) (rb : LowReg) (rd : LowReg) : Encoding.Statement (.tLdrhReg ro rb rd) := by
  intro _ f hf
  rcases hf with _ | ⟨_, ⟨⟩⟩
  exact Fixed.thumb rfl (by simp (disch := omega) only [field_append_lo, field_append_hi]; rfl)
theorem Encoding.tLdshReg (ro : LowReg) (rb : LowReg) (rd : LowReg) : Encoding.Statement (.tLdshReg ro rb rd) := by
  intro _ f hf
  rcases hf with _ | ⟨_, ⟨⟩⟩
  exact Fixed.thumb rfl (by simp (disch := omega) only [field_append_lo, field_append_hi]; rfl)
theorem Encoding.tStrImm (offset5 : BitVec 5) (rb : LowReg) (rd : LowReg) :
    Encoding.Statement (.tStrImm offset5 rb rd) := by
  intro _ f hf
  rcases hf with _ | ⟨_, ⟨⟩⟩
  exact Fixed.thumb rfl (by simp (disch := omega) only [field_append_lo, field_append_hi]; rfl)
theorem Encoding.tLdrImm (offset5 : BitVec 5) (rb : LowReg) (rd : LowReg) :
    Encoding.Statement (.tLdrImm offset5 rb rd) := by
  intro _ f hf
  rcases hf with _ | ⟨_, ⟨⟩⟩
  exact Fixed.thumb rfl (by simp (disch := omega) only [field_append_lo, field_append_hi]; rfl)
theorem Encoding.tStrbImm (offset5 : BitVec 5) (rb : LowReg) (rd : LowReg) :
    Encoding.Statement (.tStrbImm offset5 rb rd) := by
  intro _ f hf
  rcases hf with _ | ⟨_, ⟨⟩⟩
  exact Fixed.thumb rfl (by simp (disch := omega) only [field_append_lo, field_append_hi]; rfl)
theorem Encoding.tLdrbImm (offset5 : BitVec 5) (rb : LowReg) (rd : LowReg) :
    Encoding.Statement (.tLdrbImm offset5 rb rd) := by
  intro _ f hf
  rcases hf with _ | ⟨_, ⟨⟩⟩
  exact Fixed.thumb rfl (by simp (disch := omega) only [field_append_lo, field_append_hi]; rfl)
theorem Encoding.tStrhImm (offset5 : BitVec 5) (rb : LowReg) (rd : LowReg) :
    Encoding.Statement (.tStrhImm offset5 rb rd) := by
  intro _ f hf
  rcases hf with _ | ⟨_, ⟨⟩⟩
  exact Fixed.thumb rfl (by simp (disch := omega) only [field_append_lo, field_append_hi]; rfl)
theorem Encoding.tLdrhImm (offset5 : BitVec 5) (rb : LowReg) (rd : LowReg) :
    Encoding.Statement (.tLdrhImm offset5 rb rd) := by
  intro _ f hf
  rcases hf with _ | ⟨_, ⟨⟩⟩
  exact Fixed.thumb rfl (by simp (disch := omega) only [field_append_lo, field_append_hi]; rfl)
theorem Encoding.tStrSp (rd : LowReg) (word8 : BitVec 8) : Encoding.Statement (.tStrSp rd word8) := by
  intro _ f hf
  rcases hf with _ | ⟨_, ⟨⟩⟩
  exact Fixed.thumb rfl (by simp (disch := omega) only [field_append_lo, field_append_hi]; rfl)
theorem Encoding.tLdrSp (rd : LowReg) (word8 : BitVec 8) : Encoding.Statement (.tLdrSp rd word8) := by
  intro _ f hf
  rcases hf with _ | ⟨_, ⟨⟩⟩
  exact Fixed.thumb rfl (by simp (disch := omega) only [field_append_lo, field_append_hi]; rfl)
theorem Encoding.tAddPc (rd : LowReg) (word8 : BitVec 8) : Encoding.Statement (.tAddPc rd word8) := by
  intro _ f hf
  rcases hf with _ | ⟨_, ⟨⟩⟩
  exact Fixed.thumb rfl (by simp (disch := omega) only [field_append_lo, field_append_hi]; rfl)
theorem Encoding.tAddSp (rd : LowReg) (word8 : BitVec 8) : Encoding.Statement (.tAddSp rd word8) := by
  intro _ f hf
  rcases hf with _ | ⟨_, ⟨⟩⟩
  exact Fixed.thumb rfl (by simp (disch := omega) only [field_append_lo, field_append_hi]; rfl)
theorem Encoding.tAddSpImm (s : Bool) (sword7 : BitVec 7) : Encoding.Statement (.tAddSpImm s sword7) := by
  intro _ f hf
  rcases hf with _ | ⟨_, ⟨⟩⟩
  exact Fixed.thumb rfl (by simp (disch := omega) only [field_append_lo, field_append_hi]; rfl)
theorem Encoding.tPush (r : Bool) (list : BitVec 8) : Encoding.Statement (.tPush r list) := by
  intro _ f hf
  rcases hf with _ | ⟨_, ⟨⟩⟩
  exact Fixed.thumb rfl (by simp (disch := omega) only [field_append_lo, field_append_hi]; rfl)
theorem Encoding.tPop (r : Bool) (list : BitVec 8) : Encoding.Statement (.tPop r list) := by
  intro _ f hf
  rcases hf with _ | ⟨_, ⟨⟩⟩
  exact Fixed.thumb rfl (by simp (disch := omega) only [field_append_lo, field_append_hi]; rfl)
theorem Encoding.tStmia (rb : LowReg) (list : BitVec 8) : Encoding.Statement (.tStmia rb list) := by
  intro _ f hf
  rcases hf with _ | ⟨_, ⟨⟩⟩
  exact Fixed.thumb rfl (by simp (disch := omega) only [field_append_lo, field_append_hi]; rfl)
theorem Encoding.tLdmia (rb : LowReg) (list : BitVec 8) : Encoding.Statement (.tLdmia rb list) := by
  intro _ f hf
  rcases hf with _ | ⟨_, ⟨⟩⟩
  exact Fixed.thumb rfl (by simp (disch := omega) only [field_append_lo, field_append_hi]; rfl)
theorem Encoding.tBcond0xxx (cond : Cond) (soffset8 : BitVec 8) :
    Encoding.Statement (.tBcond0xxx cond soffset8) := by
  intro h f hf
  cases cond <;> first | exact Bool.noConfusion (show false = true from h) | skip
  all_goals
    rcases hf with _ | ⟨_, _ | ⟨_, ⟨⟩⟩⟩
    · exact Fixed.thumb rfl (by simp (disch := omega) only [field_append_lo, field_append_hi]; rfl)
    · exact Fixed.thumb rfl (by simp (disch := omega) only [field_append_lo, field_append_hi]; rfl)
theorem Encoding.tBcond10xx (cond : Cond) (soffset8 : BitVec 8) :
    Encoding.Statement (.tBcond10xx cond soffset8) := by
  intro h f hf
  cases cond <;> first | exact Bool.noConfusion (show false = true from h) | skip
  all_goals
    rcases hf with _ | ⟨_, _ | ⟨_, ⟨⟩⟩⟩
    · exact Fixed.thumb rfl (by simp (disch := omega) only [field_append_lo, field_append_hi]; rfl)
    · exact Fixed.thumb rfl (by simp (disch := omega) only [field_append_lo, field_append_hi]; rfl)
theorem Encoding.tBcond110x (cond : Cond) (soffset8 : BitVec 8) :
    Encoding.Statement (.tBcond110x cond soffset8) := by
  intro h f hf
  cases cond <;> first | exact Bool.noConfusion (show false = true from h) | skip
  all_goals
    rcases hf with _ | ⟨_, _ | ⟨_, ⟨⟩⟩⟩
    · exact Fixed.thumb rfl (by simp (disch := omega) only [field_append_lo, field_append_hi]; rfl)
    · exact Fixed.thumb rfl (by simp (disch := omega) only [field_append_lo, field_append_hi]; rfl)
theorem Encoding.tSwi (value8 : BitVec 8) : Encoding.Statement (.tSwi value8) := by
  intro _ f hf
  rcases hf with _ | ⟨_, ⟨⟩⟩
  exact Fixed.thumb rfl (by simp (disch := omega) only [field_append_lo, field_append_hi]; rfl)
theorem Encoding.tB (offset11 : BitVec 11) : Encoding.Statement (.tB offset11) := by
  intro _ f hf
  rcases hf with _ | ⟨_, ⟨⟩⟩
  exact Fixed.thumb rfl (by simp (disch := omega) only [field_append_lo, field_append_hi]; rfl)
theorem Encoding.tBlPrefix (offsetHi : BitVec 11) : Encoding.Statement (.tBlPrefix offsetHi) := by
  intro _ f hf
  rcases hf with _ | ⟨_, ⟨⟩⟩
  exact Fixed.thumb rfl (by simp (disch := omega) only [field_append_lo, field_append_hi]; rfl)
theorem Encoding.tBlSuffix (offsetLo : BitVec 11) : Encoding.Statement (.tBlSuffix offsetLo) := by
  intro _ f hf
  rcases hf with _ | ⟨_, ⟨⟩⟩
  exact Fixed.thumb rfl (by simp (disch := omega) only [field_append_lo, field_append_hi]; rfl)
theorem Encoding.tUndef10110001 (w : Half) : Encoding.Statement (.tUndef10110001 w) := by
  intro h f hf
  rcases hf with _ | ⟨_, ⟨⟩⟩
  exact Fixed.thumb rfl (field_of_inRow 8 8 177 h (by decide) (by decide))
theorem Encoding.tUndef1011001x (w : Half) : Encoding.Statement (.tUndef1011001x w) := by
  intro h f hf
  rcases hf with _ | ⟨_, ⟨⟩⟩
  exact Fixed.thumb rfl (field_of_inRow 9 7 89 h (by decide) (by decide))
theorem Encoding.tUndef1011011x (w : Half) : Encoding.Statement (.tUndef1011011x w) := by
  intro h f hf
  rcases hf with _ | ⟨_, ⟨⟩⟩
  exact Fixed.thumb rfl (field_of_inRow 9 7 91 h (by decide) (by decide))
theorem Encoding.tUndef101110xx (w : Half) : Encoding.Statement (.tUndef101110xx w) := by
  intro h f hf
  rcases hf with _ | ⟨_, ⟨⟩⟩
  exact Fixed.thumb rfl (field_of_inRow 10 6 46 h (by decide) (by decide))
theorem Encoding.tUndef1011111x (w : Half) : Encoding.Statement (.tUndef1011111x w) := by
  intro h f hf
  rcases hf with _ | ⟨_, ⟨⟩⟩
  exact Fixed.thumb rfl (field_of_inRow 9 7 95 h (by decide) (by decide))
theorem Encoding.tUndef11011110 (w : Half) : Encoding.Statement (.tUndef11011110 w) := by
  intro h f hf
  rcases hf with _ | ⟨_, ⟨⟩⟩
  exact Fixed.thumb rfl (field_of_inRow 8 8 222 h (by decide) (by decide))
theorem Encoding.tUndef11101 (w : Half) : Encoding.Statement (.tUndef11101 w) := by
  intro h f hf
  rcases hf with _ | ⟨_, ⟨⟩⟩
  exact Fixed.thumb rfl (field_of_inRow 11 5 29 h (by decide) (by decide))

end Sys2Proof.Laws
end

