-- ==== Sys2Proof/Tests/Slice0.lean ====
section
/-! SUPPORT. Small tests: ill-formed terms are refused, words written out from spec/opcode_table.json decode to the
instructions they stand for, one step of each instruction gives what the example of its rule says, and every statement
with hypotheses has a state and operands that meet them.  Expected values come from the rules' own examples and from
spec/95_test_vectors.md, as each comment says. -/

open Sys2Proof Sys2Proof.Machine

namespace Sys2Proof.Tests

/-! ## Helpers -/

/-- A System-mode state at 0x08000000 with registers, words of memory (by key) and the flags NZCV given. -/
def start (regs : List (RegNum × Word)) (words : List (Nat × Word)) (flags : BitVec 4) : State :=
  { cpu := { Cpu.reset with
      regs := regs.foldl (fun v x => v.set (physIndex .usr x.1) x.2) Cpu.reset.regs,
      cpsr := { Psr.zero with n := flags.getLsbD 3, z := flags.getLsbD 2, c := flags.getLsbD 1, v := flags.getLsbD 0,
                              m := 0b11111#5 },
      pc := 0x08000000#32 },
    sys := { Sys.reset with mem := words.foldl (fun m x => Memory.write32 m x.1 x.2) [] } }

/-- The state in THUMB state at an address. -/
def thumbAt (pc : Word) (s : State) : State := { s with cpu := { s.cpu with cpsr := { s.cpu.cpsr with t := true }, pc := pc } }

/-- The state at an address. -/
def armAt (pc : Word) (s : State) : State := { s with cpu := { s.cpu with pc := pc } }

/-- The state in a mode. -/
def inMode (m : BitVec 5) (s : State) : State := { s with cpu := { s.cpu with cpsr := { s.cpu.cpsr with m := m } } }

/-- The state with a ROM image of a size. -/
def withRom (n : Nat) (s : State) : State := s.withSys { s.sys with params := { s.sys.params with romSize := n } }

/-- The state with UNPREDICTABLE cases as faults. -/
def strictly (s : State) : State := s.withSys { s.sys with params := { s.sys.params with unpred := .fault } }

/-- What is read of the next state, if there is one. -/
def seen {α : Type} (f : State → α) : Result → Option α
  | .next t => some (f t)
  | .fault _ => none
  | .refused _ => none

/-- What an ARM word does. -/
def arm {α : Type} (x : Word) (s : State) (f : State → α) : Option α := seen f (exec (decodeArm x) s)

/-- What a THUMB halfword does. -/
def thumb {α : Type} (x : Half) (s : State) (f : State → α) : Option α := seen f (exec (decodeThumb x) s)

/-- The fault of an ARM word. -/
def stops (x : Word) (s : State) : Option Fault :=
  match exec (decodeArm x) s with
  | .next _ => none
  | .fault f => some f
  | .refused _ => none

/-- The flags NZCV. -/
def nzcv (s : State) : BitVec 4 :=
  BitVec.ofBool s.cpu.cpsr.n ++ BitVec.ofBool s.cpu.cpsr.z ++ BitVec.ofBool s.cpu.cpsr.c ++ BitVec.ofBool s.cpu.cpsr.v

/-- A word of memory by key. -/
def word (k : Nat) (s : State) : Word := Memory.read32 s.sys.mem k

/-- A result that is seen is a next state. -/
theorem next_of_seen {r : Result} (h : seen (fun _ => ()) r = some ()) : ∃ t, r = .next t := by
  cases r with
  | next t => exact ⟨t, rfl⟩
  | fault f => exact absurd h (by simp [seen])
  | refused f => exact absurd h (by simp [seen])

/-! ## Ill-formed terms (30_encoding.md R208, R210, R212, R213) -/

theorem test_illFormed_undefMul00001 : (Instr.undefMul00001 0x08400090#32).wellFormed = false := by decide
theorem test_illFormed_undefMul00011 : (Instr.undefMul00011 0x09800090#32).wellFormed = false := by decide
theorem test_illFormed_undefSwpX1 : (Instr.undefSwpX1 0x09100090#32).wellFormed = false := by decide
theorem test_illFormed_undefSwp10 : (Instr.undefSwp10 0x09200090#32).wellFormed = false := by decide
theorem test_illFormed_undefLdrdStrd : (Instr.undefLdrdStrd 0x080000D0#32).wellFormed = false := by decide
theorem test_illFormed_undefMiscBx00 : (Instr.undefMiscBx00 0x09000010#32).wellFormed = false := by decide
theorem test_illFormed_undefMiscBx10 : (Instr.undefMiscBx10 0x09400010#32).wellFormed = false := by decide
theorem test_illFormed_undefMiscBx11 : (Instr.undefMiscBx11 0x09600010#32).wellFormed = false := by decide
theorem test_illFormed_undefMisc01xx : (Instr.undefMisc01xx 0x09000040#32).wellFormed = false := by decide
theorem test_illFormed_undefMisc001x : (Instr.undefMisc001x 0x09000020#32).wellFormed = false := by decide
theorem test_illFormed_undefMisc1xx0 : (Instr.undefMisc1xx0 0x09000080#32).wellFormed = false := by decide
theorem test_illFormed_undefMovStatus : (Instr.undefMovStatus 0x0B000000#32).wellFormed = false := by decide
theorem test_illFormed_undefMedia : (Instr.undefMedia 0x0E000010#32).wellFormed = false := by decide
theorem test_illFormed_tUndef10110001 : (Instr.tUndef10110001 0x3100#16).wellFormed = false := by decide
theorem test_illFormed_tUndef1011001x : (Instr.tUndef1011001x 0x3200#16).wellFormed = false := by decide
theorem test_illFormed_tUndef1011011x : (Instr.tUndef1011011x 0x3600#16).wellFormed = false := by decide
theorem test_illFormed_tUndef101110xx : (Instr.tUndef101110xx 0x3800#16).wellFormed = false := by decide
theorem test_illFormed_tUndef1011111x : (Instr.tUndef1011111x 0x3E00#16).wellFormed = false := by decide
theorem test_illFormed_tUndef11011110 : (Instr.tUndef11011110 0x5E00#16).wellFormed = false := by decide
theorem test_illFormed_tUndef11101 : (Instr.tUndef11101 0x6800#16).wellFormed = false := by decide
theorem test_illFormed_tBcond0xxx : (Instr.tBcond0xxx .hi 0#8).wellFormed = false := by decide
theorem test_illFormed_tBcond10xx : (Instr.tBcond10xx .vc 0#8).wellFormed = false := by decide
theorem test_illFormed_tBcond110x : (Instr.tBcond110x .al 0#8).wellFormed = false := by decide

/-! ## Decoding: a word for every row, each field at its place of spec/opcode_table.json -/

theorem test_decodeArm_00 :
    decodeArm 0x201B11E2#32 = .andShi .cs true 11#4 1#4 3#5 .ror 2#4 ∧
    decodeArm 0x900F9432#32 = .andShr .ls false 15#4 9#4 4#4 .lsr 2#4 ∧
    decodeArm 0x6204296D#32 = .andImm .vs false 4#4 2#4 9#4 109#8 ∧
    decodeArm 0xD024BAE1#32 = .eorShi .le false 4#4 11#4 21#5 .ror 1#4 ∧
    decodeArm 0x9031417E#32 = .eorShr .ls true 1#4 4#4 1#4 .ror 14#4 ∧
    decodeArm 0x42339293#32 = .eorImm .mi true 3#4 9#4 2#4 147#8 ∧
    decodeArm 0x8042A9E4#32 = .subShi .hi false 2#4 10#4 19#5 .ror 4#4 ∧
    decodeArm 0x104A1A38#32 = .subShr .ne false 10#4 1#4 10#4 .lsr 8#4 ∧
    decodeArm 0x825D6896#32 = .subImm .hi true 13#4 6#4 8#4 150#8 ∧
    decodeArm 0x70754D2C#32 = .rsbShi .vc true 5#4 4#4 26#5 .lsr 12#4 := by
  refine ⟨?_, ?_, ?_, ?_, ?_, ?_, ?_, ?_, ?_, ?_⟩
  all_goals decide
theorem test_decodeArm_01 :
    decodeArm 0x306A595F#32 = .rsbShr .cc false 10#4 5#4 9#4 .asr 15#4 ∧
    decodeArm 0xB275A21F#32 = .rsbImm .lt true 5#4 10#4 2#4 31#8 ∧
    decodeArm 0x608D62C7#32 = .addShi .vs false 13#4 6#4 5#5 .asr 7#4 ∧
    decodeArm 0xA08D9A56#32 = .addShr .ge false 13#4 9#4 10#4 .asr 6#4 ∧
    decodeArm 0x529AD812#32 = .addImm .pl true 10#4 13#4 8#4 18#8 ∧
    decodeArm 0x10B8CB21#32 = .adcShi .ne true 8#4 12#4 22#5 .lsr 1#4 ∧
    decodeArm 0xB0BBAB55#32 = .adcShr .lt true 11#4 10#4 11#4 .asr 5#4 ∧
    decodeArm 0x62B1862C#32 = .adcImm .vs true 1#4 8#4 6#4 44#8 ∧
    decodeArm 0x10D14CC3#32 = .sbcShi .ne true 1#4 4#4 25#5 .asr 3#4 ∧
    decodeArm 0x30D7FE52#32 = .sbcShr .cc true 7#4 15#4 14#4 .asr 2#4 := by
  refine ⟨?_, ?_, ?_, ?_, ?_, ?_, ?_, ?_, ?_, ?_⟩
  all_goals decide
theorem test_decodeArm_02 :
    decodeArm 0x72D95F24#32 = .sbcImm .vc true 9#4 5#4 15#4 36#8 ∧
    decodeArm 0x60FC766F#32 = .rscShi .vs true 12#4 7#4 12#5 .ror 15#4 ∧
    decodeArm 0x30E2333B#32 = .rscShr .cc false 2#4 3#4 3#4 .lsr 11#4 ∧
    decodeArm 0x02FEA344#32 = .rscImm .eq true 14#4 10#4 3#4 68#8 ∧
    decodeArm 0x01130766#32 = .tstShi .eq 3#4 14#5 .ror 6#4 ∧
    decodeArm 0x9116037E#32 = .tstShr .ls 6#4 3#4 .ror 14#4 ∧
    decodeArm 0x931B0BBE#32 = .tstImm .ls 11#4 11#4 190#8 ∧
    decodeArm 0x713F0E6D#32 = .teqShi .vc 15#4 28#5 .ror 13#4 ∧
    decodeArm 0x61370752#32 = .teqShr .vs 7#4 7#4 .asr 2#4 ∧
    decodeArm 0xA3370131#32 = .teqImm .ge 7#4 1#4 49#8 := by
  refine ⟨?_, ?_, ?_, ?_, ?_, ?_, ?_, ?_, ?_, ?_⟩
  all_goals decide
theorem test_decodeArm_03 :
    decodeArm 0x31580326#32 = .cmpShi .cc 8#4 6#5 .lsr 6#4 ∧
    decodeArm 0x01520173#32 = .cmpShr .eq 2#4 1#4 .ror 3#4 ∧
    decodeArm 0x13560A07#32 = .cmpImm .ne 6#4 10#4 7#8 ∧
    decodeArm 0xD1740A43#32 = .cmnShi .le 4#4 20#5 .asr 3#4 ∧
    decodeArm 0x41760A58#32 = .cmnShr .mi 6#4 10#4 .asr 8#4 ∧
    decodeArm 0x137E08FF#32 = .cmnImm .ne 14#4 8#4 255#8 ∧
    decodeArm 0x719522AC#32 = .orrShi .vc true 5#4 2#4 5#5 .lsr 12#4 ∧
    decodeArm 0xB198EC39#32 = .orrShr .lt true 8#4 14#4 12#4 .lsr 9#4 ∧
    decodeArm 0x3393C9EB#32 = .orrImm .cc true 3#4 12#4 9#4 235#8 ∧
    decodeArm 0xC1B0BE2C#32 = .movShi .gt true 11#4 28#5 .lsr 12#4 := by
  refine ⟨?_, ?_, ?_, ?_, ?_, ?_, ?_, ?_, ?_, ?_⟩
  all_goals decide
theorem test_decodeArm_04 :
    decodeArm 0x41B0F35D#32 = .movShr .mi true 15#4 3#4 .asr 13#4 ∧
    decodeArm 0x83B0B49D#32 = .movImm .hi true 11#4 4#4 157#8 ∧
    decodeArm 0xC1CD4DCC#32 = .bicShi .gt false 13#4 4#4 27#5 .asr 12#4 ∧
    decodeArm 0x31C98671#32 = .bicShr .cc false 9#4 8#4 6#4 .ror 1#4 ∧
    decodeArm 0xC3D854B2#32 = .bicImm .gt true 8#4 5#4 4#4 178#8 ∧
    decodeArm 0x51F0DF66#32 = .mvnShi .pl true 13#4 30#5 .ror 6#4 ∧
    decodeArm 0x11E02454#32 = .mvnShr .ne false 2#4 4#4 .asr 4#4 ∧
    decodeArm 0x33F0AF9D#32 = .mvnImm .cc true 10#4 15#4 157#8 ∧
    decodeArm 0x001F0B96#32 = .mul .eq true 15#4 11#4 6#4 ∧
    decodeArm 0xA02EB29F#32 = .mla .ge false 14#4 11#4 2#4 15#4 := by
  refine ⟨?_, ?_, ?_, ?_, ?_, ?_, ?_, ?_, ?_, ?_⟩
  all_goals decide
theorem test_decodeArm_05 :
    decodeArm 0xC088F397#32 = .umull .gt false 8#4 15#4 3#4 7#4 ∧
    decodeArm 0xA0B2DC97#32 = .umlal .ge true 2#4 13#4 12#4 7#4 ∧
    decodeArm 0x60CC3393#32 = .smull .vs false 12#4 3#4 3#4 3#4 ∧
    decodeArm 0x20FDB39A#32 = .smlal .cs true 13#4 11#4 3#4 10#4 ∧
    decodeArm 0x9108B09F#32 = .swp .ls 8#4 11#4 15#4 ∧
    decodeArm 0x21499093#32 = .swpb .cs 9#4 9#4 3#4 ∧
    decodeArm 0x01009000#32 = .mrs .eq false 9#4 ∧
    decodeArm 0xE127000E#32 = .msrReg .al false 7#4 14#4 ∧
    decodeArm 0xD3210537#32 = .msrImm .le false 1#4 5#4 55#8 ∧
    decodeArm 0x81200014#32 = .bx .hi 4#4 := by
  refine ⟨?_, ?_, ?_, ?_, ?_, ?_, ?_, ?_, ?_, ?_⟩
  all_goals decide
theorem test_decodeArm_06 :
    decodeArm 0x91AE30B1#32 = .strhReg .ls true true true 14#4 3#4 1#4 ∧
    decodeArm 0xB1EEFFB9#32 = .strhImm .lt true true true 14#4 15#4 15#4 9#4 ∧
    decodeArm 0x803D30BA#32 = .ldrhReg .hi false false true 13#4 3#4 10#4 ∧
    decodeArm 0xC058ACB2#32 = .ldrhImm .gt false false false 8#4 10#4 12#4 2#4 ∧
    decodeArm 0x019F90D1#32 = .ldrsbReg .eq true true false 15#4 9#4 1#4 ∧
    decodeArm 0x315989D1#32 = .ldrsbImm .cc true false false 9#4 8#4 9#4 1#4 ∧
    decodeArm 0xE0BA90FA#32 = .ldrshReg .al false true true 10#4 9#4 10#4 ∧
    decodeArm 0x31F94CF9#32 = .ldrshImm .cc true true true 9#4 4#4 12#4 9#4 ∧
    decodeArm 0xE58E8232#32 = .strImmPre .al true false 14#4 8#4 0x232#12 ∧
    decodeArm 0x1488612A#32 = .strImmPost .ne true 8#4 6#4 0x12A#12 := by
  refine ⟨?_, ?_, ?_, ?_, ?_, ?_, ?_, ?_, ?_, ?_⟩
  all_goals decide
theorem test_decodeArm_07 :
    decodeArm 0x34A24AB7#32 = .strtImm .cc true 2#4 4#4 0xAB7#12 ∧
    decodeArm 0xC70CBB43#32 = .strRegPre .gt false false 12#4 11#4 22#5 .asr 3#4 ∧
    decodeArm 0xE6084C27#32 = .strRegPost .al false 8#4 4#4 24#5 .lsr 7#4 ∧
    decodeArm 0x762BE42C#32 = .strtReg .vc false 11#4 14#4 8#5 .lsr 12#4 ∧
    decodeArm 0x85B745B5#32 = .ldrImmPre .hi true true 7#4 4#4 0x5B5#12 ∧
    decodeArm 0x149168DE#32 = .ldrImmPost .ne true 1#4 6#4 0x8DE#12 ∧
    decodeArm 0x74376848#32 = .ldrtImm .vc false 7#4 6#4 0x848#12 ∧
    decodeArm 0x471FD422#32 = .ldrRegPre .mi false false 15#4 13#4 8#5 .lsr 2#4 ∧
    decodeArm 0x461FD34D#32 = .ldrRegPost .mi false 15#4 13#4 6#5 .asr 13#4 ∧
    decodeArm 0xD6BEFB47#32 = .ldrtReg .le true 14#4 15#4 22#5 .asr 7#4 := by
  refine ⟨?_, ?_, ?_, ?_, ?_, ?_, ?_, ?_, ?_, ?_⟩
  all_goals decide
theorem test_decodeArm_08 :
    decodeArm 0x85E250EC#32 = .strbImmPre .hi true true 2#4 5#4 0xEC#12 ∧
    decodeArm 0xB447F129#32 = .strbImmPost .lt false 7#4 15#4 0x129#12 ∧
    decodeArm 0x046D5158#32 = .strbtImm .eq false 13#4 5#4 0x158#12 ∧
    decodeArm 0xD745E241#32 = .strbRegPre .le false false 5#4 14#4 4#5 .asr 1#4 ∧
    decodeArm 0x86CFF4E3#32 = .strbRegPost .hi true 15#4 15#4 9#5 .ror 3#4 ∧
    decodeArm 0x866234A3#32 = .strbtReg .hi false 2#4 3#4 9#5 .lsr 3#4 ∧
    decodeArm 0xE5F9D34C#32 = .ldrbImmPre .al true true 9#4 13#4 0x34C#12 ∧
    decodeArm 0x74556CDC#32 = .ldrbImmPost .vc false 5#4 6#4 0xCDC#12 ∧
    decodeArm 0x44711BBB#32 = .ldrbtImm .mi false 1#4 1#4 0xBBB#12 ∧
    decodeArm 0x8774F7AB#32 = .ldrbRegPre .hi false true 4#4 15#4 15#5 .lsr 11#4 := by
  refine ⟨?_, ?_, ?_, ?_, ?_, ?_, ?_, ?_, ?_, ?_⟩
  all_goals decide
theorem test_decodeArm_09 :
    decodeArm 0xA6DB8949#32 = .ldrbRegPost .ge true 11#4 8#4 18#5 .asr 9#4 ∧
    decodeArm 0xB67463EC#32 = .ldrbtReg .lt false 4#4 6#4 7#5 .ror 12#4 ∧
    decodeArm 0x298E213C#32 = .stm .cs true true false 14#4 0x213C#16 ∧
    decodeArm 0x199115A1#32 = .ldm .ne true true false 1#4 0x15A1#16 ∧
    decodeArm 0xD9CC4B06#32 = .stmS .le true true false 12#4 0x4B06#16 ∧
    decodeArm 0x787800EE#32 = .ldmS .vc false false true 8#4 0xEE#16 ∧
    decodeArm 0x5AF637A5#32 = .b .pl 0xF637A5#24 ∧
    decodeArm 0x8B52D31F#32 = .bl .hi 0x52D31F#24 ∧
    decodeArm 0x0FF735F0#32 = .swi .eq 0xF735F0#24 ∧
    decodeArm 0x4C972848#32 = .ldcStc .mi false true false false true 7#4 2#4 8#4 72#8 := by
  refine ⟨?_, ?_, ?_, ?_, ?_, ?_, ?_, ?_, ?_, ?_⟩
  all_goals decide
theorem test_decodeArm_10 :
    decodeArm 0xAE449D22#32 = .cdp .ge 4#4 4#4 9#4 13#4 1#3 2#4 ∧
    decodeArm 0xDE27A191#32 = .mrcMcr .le 1#3 false 7#4 10#4 1#4 4#3 1#4 ∧
    decodeArm 0xE0458295#32 = .undefMul00001 0xE0458295#32 ∧
    decodeArm 0xE1DE6098#32 = .undefMul00011 0xE1DE6098#32 ∧
    decodeArm 0xE13AA992#32 = .undefSwpX1 0xE13AA992#32 ∧
    decodeArm 0xE168DD9C#32 = .undefSwp10 0xE168DD9C#32 ∧
    decodeArm 0xE0679BD4#32 = .undefLdrdStrd 0xE0679BD4#32 ∧
    decodeArm 0xE102ED1F#32 = .undefMiscBx00 0xE102ED1F#32 ∧
    decodeArm 0xE146591A#32 = .undefMiscBx10 0xE146591A#32 ∧
    decodeArm 0xE16AE719#32 = .undefMiscBx11 0xE16AE719#32 := by
  refine ⟨?_, ?_, ?_, ?_, ?_, ?_, ?_, ?_, ?_, ?_⟩
  all_goals decide
theorem test_decodeArm_11 :
    decodeArm 0xE126B675#32 = .undefMisc01xx 0xE126B675#32 ∧
    decodeArm 0xE106332A#32 = .undefMisc001x 0xE106332A#32 ∧
    decodeArm 0xE1485A85#32 = .undefMisc1xx0 0xE1485A85#32 ∧
    decodeArm 0xE34E6CB2#32 = .undefMovStatus 0xE34E6CB2#32 ∧
    decodeArm 0xE6CA2EF7#32 = .undefMedia 0xE6CA2EF7#32 := by
  refine ⟨?_, ?_, ?_, ?_, ?_⟩
  all_goals decide
theorem test_decodeThumb_11 :
    decodeThumb 0x05DE#16 = .tLslImm 23#5 3#3 6#3 ∧
    decodeThumb 0x090A#16 = .tLsrImm 4#5 1#3 2#3 ∧
    decodeThumb 0x12D2#16 = .tAsrImm 11#5 2#3 2#3 ∧
    decodeThumb 0x19AE#16 = .tAddReg 6#3 5#3 6#3 ∧
    decodeThumb 0x1B0B#16 = .tSubReg 4#3 1#3 3#3 := by
  refine ⟨?_, ?_, ?_, ?_, ?_⟩
  all_goals decide
theorem test_decodeThumb_12 :
    decodeThumb 0x1DB4#16 = .tAddImm3 6#3 6#3 4#3 ∧
    decodeThumb 0x1FDB#16 = .tSubImm3 7#3 3#3 3#3 ∧
    decodeThumb 0x242C#16 = .tMovImm8 4#3 44#8 ∧
    decodeThumb 0x2901#16 = .tCmpImm8 1#3 1#8 ∧
    decodeThumb 0x3148#16 = .tAddImm8 1#3 72#8 ∧
    decodeThumb 0x395A#16 = .tSubImm8 1#3 90#8 ∧
    decodeThumb 0x4021#16 = .tAnd 4#3 1#3 ∧
    decodeThumb 0x406F#16 = .tEor 5#3 7#3 ∧
    decodeThumb 0x4094#16 = .tLslReg 2#3 4#3 ∧
    decodeThumb 0x40DF#16 = .tLsrReg 3#3 7#3 := by
  refine ⟨?_, ?_, ?_, ?_, ?_, ?_, ?_, ?_, ?_, ?_⟩
  all_goals decide
theorem test_decodeThumb_13 :
    decodeThumb 0x413B#16 = .tAsrReg 7#3 3#3 ∧
    decodeThumb 0x417F#16 = .tAdc 7#3 7#3 ∧
    decodeThumb 0x41A1#16 = .tSbc 4#3 1#3 ∧
    decodeThumb 0x41CE#16 = .tRorReg 1#3 6#3 ∧
    decodeThumb 0x4222#16 = .tTst 4#3 2#3 ∧
    decodeThumb 0x425D#16 = .tNeg 3#3 5#3 ∧
    decodeThumb 0x42A2#16 = .tCmpReg 4#3 2#3 ∧
    decodeThumb 0x42DB#16 = .tCmn 3#3 3#3 ∧
    decodeThumb 0x4334#16 = .tOrr 6#3 4#3 ∧
    decodeThumb 0x434E#16 = .tMul 1#3 6#3 := by
  refine ⟨?_, ?_, ?_, ?_, ?_, ?_, ?_, ?_, ?_, ?_⟩
  all_goals decide
theorem test_decodeThumb_14 :
    decodeThumb 0x43A2#16 = .tBic 4#3 2#3 ∧
    decodeThumb 0x43FE#16 = .tMvn 7#3 6#3 ∧
    decodeThumb 0x44A1#16 = .tAddHi true false 4#3 1#3 ∧
    decodeThumb 0x45B9#16 = .tCmpHi true false 7#3 1#3 ∧
    decodeThumb 0x46B1#16 = .tMovHi true false 6#3 1#3 ∧
    decodeThumb 0x47DB#16 = .tBx true true 3#3 3#3 ∧
    decodeThumb 0x4D0C#16 = .tLdrPc 5#3 12#8 ∧
    decodeThumb 0x50F6#16 = .tStrReg 3#3 6#3 6#3 ∧
    decodeThumb 0x559B#16 = .tStrbReg 6#3 3#3 3#3 ∧
    decodeThumb 0x58CE#16 = .tLdrReg 3#3 1#3 6#3 := by
  refine ⟨?_, ?_, ?_, ?_, ?_, ?_, ?_, ?_, ?_, ?_⟩
  all_goals decide
theorem test_decodeThumb_15 :
    decodeThumb 0x5DEF#16 = .tLdrbReg 7#3 5#3 7#3 ∧
    decodeThumb 0x5389#16 = .tStrhReg 6#3 1#3 1#3 ∧
    decodeThumb 0x57D1#16 = .tLdsbReg 7#3 2#3 1#3 ∧
    decodeThumb 0x5B34#16 = .tLdrhReg 4#3 6#3 4#3 ∧
    decodeThumb 0x5FE7#16 = .tLdshReg 7#3 4#3 7#3 ∧
    decodeThumb 0x6267#16 = .tStrImm 9#5 4#3 7#3 ∧
    decodeThumb 0x6C14#16 = .tLdrImm 16#5 2#3 4#3 ∧
    decodeThumb 0x718F#16 = .tStrbImm 6#5 1#3 7#3 ∧
    decodeThumb 0x7FB3#16 = .tLdrbImm 30#5 6#3 3#3 ∧
    decodeThumb 0x86F7#16 = .tStrhImm 27#5 6#3 7#3 := by
  refine ⟨?_, ?_, ?_, ?_, ?_, ?_, ?_, ?_, ?_, ?_⟩
  all_goals decide
theorem test_decodeThumb_16 :
    decodeThumb 0x896A#16 = .tLdrhImm 5#5 5#3 2#3 ∧
    decodeThumb 0x93DD#16 = .tStrSp 3#3 221#8 ∧
    decodeThumb 0x9B76#16 = .tLdrSp 3#3 118#8 ∧
    decodeThumb 0xA3C9#16 = .tAddPc 3#3 201#8 ∧
    decodeThumb 0xAF99#16 = .tAddSp 7#3 153#8 ∧
    decodeThumb 0xB042#16 = .tAddSpImm false 66#7 ∧
    decodeThumb 0xB465#16 = .tPush false 101#8 ∧
    decodeThumb 0xBC40#16 = .tPop false 64#8 ∧
    decodeThumb 0xC411#16 = .tStmia 4#3 17#8 ∧
    decodeThumb 0xCE09#16 = .tLdmia 6#3 9#8 := by
  refine ⟨?_, ?_, ?_, ?_, ?_, ?_, ?_, ?_, ?_, ?_⟩
  all_goals decide
theorem test_decodeThumb_17 :
    decodeThumb 0xD59A#16 = .tBcond0xxx .pl 0x9A#8 ∧
    decodeThumb 0xDA9A#16 = .tBcond10xx .ge 0x9A#8 ∧
    decodeThumb 0xDD9A#16 = .tBcond110x .le 0x9A#8 ∧
    decodeThumb 0xDF7C#16 = .tSwi 124#8 ∧
    decodeThumb 0xE46C#16 = .tB 0x46C#11 ∧
    decodeThumb 0xF45C#16 = .tBlPrefix 0x45C#11 ∧
    decodeThumb 0xFA9C#16 = .tBlSuffix 0x29C#11 ∧
    decodeThumb 0xB16F#16 = .tUndef10110001 0xB16F#16 ∧
    decodeThumb 0xB22E#16 = .tUndef1011001x 0xB22E#16 ∧
    decodeThumb 0xB7FE#16 = .tUndef1011011x 0xB7FE#16 := by
  refine ⟨?_, ?_, ?_, ?_, ?_, ?_, ?_, ?_, ?_, ?_⟩
  all_goals decide
theorem test_decodeThumb_18 :
    decodeThumb 0xBB3D#16 = .tUndef101110xx 0xBB3D#16 ∧
    decodeThumb 0xBFBB#16 = .tUndef1011111x 0xBFBB#16 ∧
    decodeThumb 0xDE2C#16 = .tUndef11011110 0xDE2C#16 ∧
    decodeThumb 0xEAF2#16 = .tUndef11101 0xEAF2#16 := by
  refine ⟨?_, ?_, ?_, ?_⟩
  all_goals decide

/-- 30_encoding.md R209: TST with nonzero should-be-zero bits 15:12 is TST. -/
theorem test_decode_ignored : decodeArm 0xE311F102#32 = decodeArm 0xE3110102#32 := by decide

/-- 30_encoding.md R205: the NV space decodes as the row it lies in, and its condition never holds. -/
theorem test_decode_nv : decodeArm 0xF7F000F0#32 = .undefMedia 0xF7F000F0#32 := by decide

/-! ## ARM data processing: the examples of 40_arm_dataproc.md R280..R296 and 95_test_vectors.md §3.1, §3.2 -/

theorem test_R280_and :
    arm 0xE0010002#32 (start [(1#4, 0xFF#32), (2#4, 0xF0F#32)] [] 5#4)
      (fun t => (t.reg 0#4, nzcv t)) = some (0xF#32, 5#4) := by decide
theorem test_R281_eors :
    arm 0xE0310002#32 (start [(1#4, 0x1234#32), (2#4, 0x1234#32)] [] 3#4)
      (fun t => (t.reg 0#4, nzcv t)) = some (0#32, 7#4) := by decide
theorem test_R282_subs :
    arm 0xE0510002#32 (start [(1#4, 0x5#32), (2#4, 0x7#32)] [] 0#4)
      (fun t => (t.reg 0#4, nzcv t)) = some (0xFFFFFFFE#32, 8#4) := by decide
theorem test_vec32_subs_overflow :
    arm 0xE0510002#32 (start [(1#4, 0x80000000#32), (2#4, 0x1#32)] [] 0#4)
      (fun t => (t.reg 0#4, nzcv t)) = some (0x7FFFFFFF#32, 3#4) := by decide
theorem test_R283_rsb :
    arm 0xE2610000#32 (start [(1#4, 0x5#32)] [] 0#4)
      (fun t => (t.reg 0#4, nzcv t)) = some (0xFFFFFFFB#32, 0#4) := by decide
theorem test_R284_adds :
    arm 0xE0910002#32 (start [(1#4, 0x7FFFFFFF#32), (2#4, 0x1#32)] [] 0#4)
      (fun t => (t.reg 0#4, nzcv t)) = some (0x80000000#32, 9#4) := by decide
theorem test_R285_adcs :
    arm 0xE0B10002#32 (start [(1#4, 0xFFFFFFFF#32)] [] 2#4)
      (fun t => (t.reg 0#4, nzcv t)) = some (0#32, 6#4) := by decide
theorem test_vec32_adcs_overflow :
    arm 0xE0B10002#32 (start [(1#4, 0x7FFFFFFF#32), (2#4, 0x7FFFFFFF#32)] [] 0#4)
      (fun t => (t.reg 0#4, nzcv t)) = some (0xFFFFFFFE#32, 9#4) := by decide
theorem test_R286_sbcs :
    arm 0xE0D10002#32 (start [(1#4, 0x5#32), (2#4, 0x5#32)] [] 0#4)
      (fun t => (t.reg 0#4, nzcv t)) = some (0xFFFFFFFF#32, 8#4) := by decide
theorem test_R287_rscs :
    arm 0xE0F10002#32 (start [(1#4, 0x3#32), (2#4, 0xA#32)] [] 2#4)
      (fun t => (t.reg 0#4, nzcv t)) = some (7#32, 2#4) := by decide
theorem test_R288_tst :
    arm 0xE3110102#32 (start [(1#4, 0x80000000#32)] [] 0#4)
      (fun t => (t.reg 1#4, nzcv t)) = some (0x80000000#32, 10#4) := by decide
theorem test_R289_teq :
    arm 0xE1310001#32 (start [(1#4, 0xDEAD#32)] [] 3#4) (fun t => nzcv t) = some (7#4) := by decide
theorem test_R290_cmp :
    arm 0xE1510002#32 (start [(1#4, 0x3#32), (2#4, 0x3#32)] [] 0#4)
      (fun t => (t.reg 1#4, nzcv t)) = some (3#32, 6#4) := by decide
theorem test_R291_cmn :
    arm 0xE1710002#32 (start [(1#4, 0x1#32), (2#4, 0xFFFFFFFF#32)] [] 0#4)
      (fun t => (t.reg 1#4, nzcv t)) = some (1#32, 6#4) := by decide
theorem test_R292_orr :
    arm 0xE1810202#32 (start [(1#4, 0x1#32), (2#4, 0xF#32)] [] 0#4) (fun t => t.reg 0#4) = some 0xF1#32 := by decide
theorem test_R293_movs :
    arm 0xE1B00021#32 (start [(1#4, 0x80000000#32)] [] 0#4)
      (fun t => (t.reg 0#4, nzcv t)) = some (0#32, 6#4) := by decide
theorem test_vec32_movs_keeps :
    arm 0xE3B00000#32 (start [(0#4, 0x1#32)] [] 3#4) (fun t => (t.reg 0#4, nzcv t)) = some (0#32, 7#4) := by decide
theorem test_R294_bic :
    arm 0xE3C100FF#32 (start [(1#4, 0x1234#32)] [] 0#4) (fun t => t.reg 0#4) = some 0x1200#32 := by decide
theorem test_R295_mvn : arm 0xE3E00000#32 (start [] [] 0#4) (fun t => t.reg 0#4) = some 0xFFFFFFFF#32 := by decide
theorem test_R296_addPc : arm 0xE28F0000#32 (start [] [] 0#4) (fun t => t.reg 0#4) = some 0x08000008#32 := by decide
theorem test_R296_movPcShiftedByRegister :
    arm 0xE1A0011F#32 (start [] [] 0#4) (fun t => (t.reg 0#4, t.sys.cost)) = some (0x0800000C#32, 1) := by decide

/-- 95_test_vectors.md §3.1: the immediate-shift amounts 0 of `m = 0x80000001`. -/
theorem test_vec31_shift0 : shiftImmediate .lsr 0#5 0x80000001#32 false = (0#32, true) ∧
    shiftImmediate .asr 0#5 0x80000001#32 false = (0xFFFFFFFF#32, true) ∧
    shiftImmediate .ror 0#5 0x80000001#32 true = (0xC0000000#32, true) ∧
    shiftImmediate .lsl 0#5 0x80000001#32 true = (0x80000001#32, true) := by decide

/-- 95_test_vectors.md §3.1: register-shift amounts 32, 33 and 255. -/
theorem test_vec31_shiftBig : shiftRegister .lsl 0x20#8 0x80000001#32 false = (0#32, true) ∧
    shiftRegister .lsr 0x21#8 0x80000001#32 true = (0#32, false) ∧
    shiftRegister .asr 0xFF#8 0x80000001#32 true = (0xFFFFFFFF#32, true) ∧
    shiftRegister .ror 0x20#8 0x80000001#32 false = (0x80000001#32, true) ∧
    shiftRegister .ror 0xFF#8 0x80000001#32 true = (0x00000003#32, false) := by decide

/-- A Supervisor-mode state whose SPSR is 0x1F and whose R14 is 0x08000008 (95_test_vectors.md §3.9). -/
def returning : State :=
  let s := inMode 0b10011#5 (start [] [] 0#4)
  { s with cpu := { s.cpu with
      regs := s.cpu.regs.set (physIndex .svc 14#4) 0x08000008#32,
      spsr := s.cpu.spsr.set 2 { Psr.zero with m := 0b11111#5 } } }

theorem test_vec39_movsPcReturns :
    arm 0xE1B0F00E#32 (returning)
      (fun t => (t.cpu.cpsr.toWord, t.cpu.pc)) = some (0x1F#32, 0x08000008#32) := by decide

/-! ## Multiplies: the examples of 41_arm_multiply.md R314..R319 -/

theorem test_R314_mul :
    arm 0xE0000291#32 (start [(1#4, 0x3#32), (2#4, 0xFFFFFFFF#32)] [] 0#4)
      (fun t => (t.reg 0#4, t.sys.cost)) = some (0xFFFFFFFD#32, 1) := by decide
theorem test_vec34_muls :
    arm 0xE0100291#32 (start [(1#4, 0xFFFFFFFF#32), (2#4, 0x2#32)] [] 7#4)
      (fun t => (t.reg 0#4, nzcv t)) = some (0xFFFFFFFE#32, 11#4) := by decide
theorem test_R315_mla :
    arm 0xE0203291#32 (start [(1#4, 0x2#32), (2#4, 0x3#32), (3#4, 0x4#32)] [] 0#4)
      (fun t => t.reg 0#4) = some 10#32 := by decide
theorem test_R316_umull :
    arm 0xE0810392#32 (start [(2#4, 0xFFFFFFFF#32), (3#4, 0x2#32)] [] 0#4)
      (fun t => (t.reg 0#4, t.reg 1#4)) = some (0xFFFFFFFE#32, 1#32) := by decide
theorem test_R317_umlal :
    arm 0xE0A10392#32 (start [(0#4, 0xFFFFFFFF#32), (2#4, 0x1#32), (3#4, 0x1#32)] [] 0#4)
      (fun t => (t.reg 0#4, t.reg 1#4)) = some (0#32, 1#32) := by decide
theorem test_R318_smull :
    arm 0xE0C10392#32 (start [(2#4, 0xFFFFFFFE#32), (3#4, 0x3#32)] [] 0#4)
      (fun t => (t.reg 0#4, t.reg 1#4)) = some (0xFFFFFFFA#32, 0xFFFFFFFF#32) := by decide
theorem test_R319_smlals :
    arm 0xE0F10392#32 (start [(0#4, 0x5#32), (2#4, 0xFFFFFFFF#32), (3#4, 0x1#32)] [] 0#4)
      (fun t => (t.reg 0#4, t.reg 1#4, nzcv t)) = some (4#32, 0#32, 0#4) := by decide

/-! ## Status registers and branches: 42_arm_psr_branch.md R332..R337, 95_test_vectors.md §3.5 -/

/-- System mode with N = I = F = 1 (R332). -/
def masked : State :=
  let s := start [] [] 8#4
  { s with cpu := { s.cpu with cpsr := { s.cpu.cpsr with i := true, f := true } } }

theorem test_R332_mrs : arm 0xE10F0000#32 (masked) (fun t => t.reg 0#4) = some 0x800000DF#32 := by decide
theorem test_R333_msr :
    arm 0xE121F000#32 (inMode 0b10011#5 (start [(0#4, 0x1F#32)] [] 0#4))
      (fun t => t.cpu.cpsr.toWord) = some 0x1F#32 := by decide
theorem test_vec35_msrUser :
    arm 0xE129F000#32 (inMode 0b10000#5 (start [(0#4, 0x1F#32)] [] 1#4))
      (fun t => t.cpu.cpsr.toWord) = some 0x10#32 := by decide
theorem test_R334_msrImm :
    arm 0xE328F20F#32 (start [] [] 0#4) (fun t => t.cpu.cpsr.toWord) = some 0xF000001F#32 := by decide
theorem test_vec39_invalidMode : stops 0xE321F000#32 (start [] [] 0#4) = some (.invalidMode 0#5) := by decide
theorem test_R335_b : arm 0xEAFFFFFE#32 (start [] [] 0#4) (fun t => t.cpu.pc) = some 0x08000000#32 := by decide
theorem test_vec35_bRange : arm 0xEA7FFFFF#32 (start [] [] 0#4) (fun t => t.cpu.pc) = some 0x0A000004#32 := by decide
theorem test_R336_bl :
    arm 0xEB000000#32 (start [] [] 0#4)
      (fun t => (t.reg 14#4, t.cpu.pc)) = some (0x08000004#32, 0x08000008#32) := by decide
theorem test_R337_bx :
    arm 0xE12FFF10#32 (start [(0#4, 0x8000101#32)] [] 0#4)
      (fun t => (t.cpu.cpsr.t, t.cpu.pc, t.sys.lastFetchAddr)) = some (true, 0x08000100#32, 0x08000102#32) := by decide
theorem test_vec35_bxArm :
    arm 0xE12FFF10#32 (start [(0#4, 0x08000102#32)] [] 0#4)
      (fun t => (t.cpu.cpsr.t, t.cpu.pc)) = some (false, 0x08000100#32) := by decide

/-! ## Loads, stores, blocks and swaps: 43_arm_loadstore.md R356..R373, 95_test_vectors.md §3.6, §3.7 -/

theorem test_R356_ldr :
    arm 0xE5910000#32 (start [(1#4, 0x3000001#32)] [(0x03000000, 0x11223344#32)] 0#4)
      (fun t => t.reg 0#4) = some 0x44112233#32 := by decide
theorem test_vec36_ldrPost :
    arm 0xE4910004#32 (start [(1#4, 0x3000000#32)] [(0x03000000, 0x11223344#32)] 0#4)
      (fun t => (t.reg 0#4, t.reg 1#4)) = some (0x11223344#32, 0x03000004#32) := by decide
theorem test_R357_str :
    arm 0xE5A10004#32 (start [(0#4, 0xAABBCCDD#32), (1#4, 0x3000000#32)] [] 0#4)
      (fun t => (word 0x03000004 t, t.reg 1#4)) = some (0xAABBCCDD#32, 0x03000004#32) := by decide
theorem test_vec36_strOldBase :
    arm 0xE5A11004#32 (start [(1#4, 0x3000000#32)] [] 0#4)
      (fun t => (word 0x03000004 t, t.reg 1#4)) = some (0x03000000#32, 0x03000004#32) := by decide
theorem test_R358_ldrb :
    arm 0xE4D10001#32 (start [(1#4, 0x3000000#32)] [(0x03000000, 0x11223344#32)] 0#4)
      (fun t => (t.reg 0#4, t.reg 1#4)) = some (0x44#32, 0x03000001#32) := by decide
theorem test_R359_strb :
    arm 0xE5C10000#32 (start [(0#4, 0x12345678#32), (1#4, 0x3000010#32)] [] 0#4)
      (fun t => word 0x03000010 t) = some 0x78#32 := by decide
theorem test_R360_ldrReg :
    arm 0xE7910102#32 (start [(1#4, 0x3000000#32), (2#4, 0x3#32)] [(0x0300000C, 0x7#32)] 0#4)
      (fun t => t.reg 0#4) = some 7#32 := by decide
theorem test_R360_strReg :
    arm 0xE6010002#32 (start [(0#4, 0xAB#32), (1#4, 0x3000100#32), (2#4, 0x10#32)] [] 0#4)
      (fun t => (word 0x03000100 t, t.reg 1#4)) = some (0xAB#32, 0x030000F0#32) := by decide
theorem test_R361_ldrt :
    arm 0xE4B10004#32 (start [(1#4, 0x3000000#32)] [(0x03000000, 0x7#32)] 0#4)
      (fun t => (t.reg 0#4, t.reg 1#4)) = some (7#32, 0x03000004#32) := by decide
theorem test_R362_strt :
    arm 0xE4A10004#32 (start [(0#4, 0x9#32), (1#4, 0x3000000#32)] [] 0#4)
      (fun t => (word 0x03000000 t, t.reg 1#4)) = some (9#32, 0x03000004#32) := by decide
theorem test_R362_ldrbt :
    arm 0xE4F10001#32 (start [(1#4, 0x3000000#32)] [(0x03000000, 0x11223344#32)] 0#4)
      (fun t => (t.reg 0#4, t.reg 1#4)) = some (0x44#32, 0x03000001#32) := by decide
theorem test_R362_strbt :
    arm 0xE4E10001#32 (start [(0#4, 0x1FE#32), (1#4, 0x3000000#32)] [] 0#4)
      (fun t => (word 0x03000000 t, t.reg 1#4)) = some (0xFE#32, 0x03000001#32) := by decide
theorem test_R363_ldrhOdd :
    arm 0xE1D100B0#32 (start [(1#4, 0x3000001#32)] [(0x03000000, 0x1234#32)] 0#4)
      (fun t => t.reg 0#4) = some 0x34000012#32 := by decide
theorem test_R363_ldrh :
    arm 0xE1D100B2#32 (start [(1#4, 0x3000000#32)] [(0x03000000, 0xABCD1234#32)] 0#4)
      (fun t => t.reg 0#4) = some 0xABCD#32 := by decide
theorem test_R364_strh :
    arm 0xE04100B6#32 (start [(0#4, 0x1ABCD#32), (1#4, 0x3000020#32)] [] 0#4)
      (fun t => (word 0x03000020 t, t.reg 1#4)) = some (0xABCD#32, 0x0300001A#32) := by decide
theorem test_R365_ldrsb :
    arm 0xE1D100D0#32 (start [(1#4, 0x3000000#32)] [(0x03000000, 0x80#32)] 0#4)
      (fun t => t.reg 0#4) = some 0xFFFFFF80#32 := by decide
theorem test_R366_ldrsh :
    arm 0xE1D100F0#32 (start [(1#4, 0x3000000#32)] [(0x03000000, 0x8000#32)] 0#4)
      (fun t => t.reg 0#4) = some 0xFFFF8000#32 := by decide
theorem test_R366_ldrshOdd :
    arm 0xE1D100F0#32 (start [(1#4, 0x3000001#32)] [(0x03000000, 0x8000#32)] 0#4)
      (fun t => t.reg 0#4) = some 0xFFFFFF80#32 := by decide
theorem test_R367_ldm :
    arm 0xE8B0000E#32 (start [(0#4, 0x3000000#32)] [(0x03000000, 0x1#32), (0x03000004, 0x2#32), (0x03000008, 0x3#32)] 0#4)
      (fun t => (t.reg 1#4, t.reg 2#4, t.reg 3#4, t.reg 0#4)) = some (1#32, 2#32, 3#32, 0x0300000C#32) := by decide
theorem test_R368_ldmEmpty :
    arm 0xE8B00000#32 (start [(0#4, 0x3000000#32)] [(0x03000000, 0x8000100#32)] 0#4)
      (fun t => (t.cpu.pc, t.reg 0#4, t.sys.cost)) = some (0x08000100#32, 0x03000040#32, 16) := by decide
theorem test_vec37_stmdbEmpty :
    arm 0xE9200000#32 (start [(0#4, 0x3000100#32)] [] 0#4)
      (fun t => (word 0x030000C0 t, t.reg 0#4)) = some (0x0800000C#32, 0x030000C0#32) := by decide
theorem test_R369_stm :
    arm 0xE8A00003#32 (start [(0#4, 0x3000000#32)] [] 0#4)
      (fun t => (word 0x03000000 t, t.reg 0#4)) = some (0x03000000#32, 0x03000008#32) := by decide
theorem test_R369_stmBaseSecond :
    arm 0xE8A10003#32 (start [(0#4, 0x7#32), (1#4, 0x3000000#32)] [] 0#4)
      (fun t => (word 0x03000000 t, word 0x03000004 t)) = some (7#32, 0x03000008#32) := by decide
theorem test_R370_stmUser :
    arm 0xE8C06000#32 (inMode 0b10010#5 (start [(0#4, 0x3000000#32), (13#4, 0x3007F00#32), (14#4, 0x55#32)] [] 0#4))
      (fun t => (word 0x03000000 t, word 0x03000004 t)) = some (0x03007F00#32, 0x55#32) := by decide
/-- IRQ mode, with THUMB state and System mode in its SPSR and a return address on its stack. -/
def fromIrq : State :=
  let s := inMode 0b10010#5 (start [] [(0x03007F00, 0x08000102#32)] 0#4)
  { s with cpu := { s.cpu with
      regs := s.cpu.regs.set (physIndex .irq 13#4) 0x03007F00#32,
      spsr := s.cpu.spsr.set 1 { Psr.zero with t := true, m := 0b11111#5 } } }

theorem test_R371_ldmfdReturn :
    arm 0xE8FD8000#32 (fromIrq) (fun t => (t.cpu.cpsr.toWord, t.cpu.pc)) = some (0x3F#32, 0x08000102#32) := by decide
theorem test_R372_swp :
    arm 0xE1020091#32 (start [(1#4, 0x9#32), (2#4, 0x3000000#32)] [(0x03000000, 0x5#32)] 0#4)
      (fun t => (t.reg 0#4, word 0x03000000 t, t.sys.cost)) = some (5#32, 9#32, 3) := by decide
theorem test_R373_swpb :
    arm 0xE1420091#32 (start [(1#4, 0x1234#32), (2#4, 0x3000000#32)] [(0x03000000, 0xAB#32)] 0#4)
      (fun t => (t.reg 0#4, word 0x03000000 t)) = some (0xAB#32, 0x34#32) := by decide

/-! ## Traps: 44_arm_system.md R400..R405, 47_thumb_branch.md R531, 95_test_vectors.md §3.9 -/

/-- R14 and SPSR of a mode, the CPSR and the program counter. -/
def entry (b : Bank) (k : Fin 5) (t : State) : Word × Word × Word × Word :=
  (t.cpu.bankReg b 14#4, t.cpu.spsr[k].toWord, t.cpu.cpsr.toWord, t.cpu.pc)

theorem test_R400_swi :
    arm 0xEF050000#32 (armAt 0x08000100#32 (start [] [] 0#4))
      (fun t => entry .svc 2 t) = some (0x08000104#32, 0x1F#32, 0x93#32, 8#32) := by decide
theorem test_R401_ldc :
    arm 0xED900100#32 (start [] [] 0#4)
      (fun t => entry .und 4 t) = some (0x08000004#32, 0x1F#32, 0x9B#32, 4#32) := by decide
theorem test_R402_cdp :
    arm 0xEE000100#32 (start [] [] 0#4) (fun t => (entry .und 4 t).2.2) = some (0x9B#32, 4#32) := by decide
theorem test_R403_mrc :
    arm 0xEE100F10#32 (start [(0#4, 0x7#32)] [] 0#4) (fun t => (t.reg 0#4, t.cpu.pc)) = some (7#32, 4#32) := by decide
theorem test_R404_undefined :
    arm 0xE7F000F0#32 (start [] [] 0#4)
      (fun t => (entry .und 4 t, t.sys.cost)) = some ((0x08000004#32, 0x1F#32, 0x9B#32, 4#32), 3) := by decide
theorem test_R405_thumbUndefined :
    thumb 0xDE00#16 (thumbAt 0x08000000#32 (start [] [] 0#4))
      (fun t => entry .und 4 t) = some (0x08000002#32, 0x3F#32, 0x9B#32, 4#32) := by decide
theorem test_R531_thumbSwi :
    thumb 0xDF05#16 (thumbAt 0x08000200#32 (start [] [] 0#4))
      (fun t => entry .svc 2 t) = some (0x08000202#32, 0x3F#32, 0x93#32, 8#32) := by decide
theorem test_vec33_swine :
    arm 0x1F000000#32 (start [] [] 4#4)
      (fun t => (t.cpu.pc, t.cpu.cpsr.m)) = some (0x08000004#32, 0b11111#5) := by decide

/-! ## THUMB data processing: 45_thumb_alu.md R421..R464 -/

theorem test_R421_lsl :
    thumb 0x0088#16 (thumbAt 0x08000000#32 (start [(1#4, 0x40000001#32)] [] 0#4))
      (fun t => (t.reg 0#4, nzcv t)) = some (4#32, 2#4) := by decide
theorem test_R422_lsr :
    thumb 0x0808#16 (thumbAt 0x08000000#32 (start [(1#4, 0x80000000#32)] [] 0#4))
      (fun t => (t.reg 0#4, nzcv t)) = some (0#32, 6#4) := by decide
theorem test_R423_asr :
    thumb 0x1048#16 (thumbAt 0x08000000#32 (start [(1#4, 0x80000001#32)] [] 0#4))
      (fun t => (t.reg 0#4, nzcv t)) = some (0xC0000000#32, 10#4) := by decide
theorem test_R424_add :
    thumb 0x1888#16 (thumbAt 0x08000000#32 (start [(1#4, 0x1#32), (2#4, 0x2#32)] [] 15#4))
      (fun t => (t.reg 0#4, nzcv t)) = some (3#32, 0#4) := by decide
theorem test_R425_sub :
    thumb 0x1A88#16 (thumbAt 0x08000000#32 (start [(1#4, 0x2#32), (2#4, 0x3#32)] [] 0#4))
      (fun t => (t.reg 0#4, nzcv t)) = some (0xFFFFFFFF#32, 8#4) := by decide
theorem test_R426_addImm3 :
    thumb 0x1DC8#16 (thumbAt 0x08000000#32 (start [(1#4, 0xFFFFFFF9#32)] [] 0#4))
      (fun t => (t.reg 0#4, nzcv t)) = some (0#32, 6#4) := by decide
theorem test_R427_subImm3 :
    thumb 0x1E48#16 (thumbAt 0x08000000#32 (start [] [] 0#4))
      (fun t => (t.reg 0#4, nzcv t)) = some (0xFFFFFFFF#32, 8#4) := by decide
theorem test_R430_mov :
    thumb 0x2080#16 (thumbAt 0x08000000#32 (start [] [] 3#4))
      (fun t => (t.reg 0#4, nzcv t)) = some (0x80#32, 3#4) := by decide
theorem test_R431_cmp :
    thumb 0x2801#16 (thumbAt 0x08000000#32 (start [(0#4, 0x1#32)] [] 0#4))
      (fun t => (t.reg 0#4, nzcv t)) = some (1#32, 6#4) := by decide
theorem test_R432_addImm8 :
    thumb 0x31FF#16 (thumbAt 0x08000000#32 (start [(1#4, 0x1#32)] [] 0#4))
      (fun t => (t.reg 1#4, nzcv t)) = some (0x100#32, 0#4) := by decide
theorem test_R433_subImm8 :
    thumb 0x3A01#16 (thumbAt 0x08000000#32 (start [(2#4, 0x1#32)] [] 0#4))
      (fun t => (t.reg 2#4, nzcv t)) = some (0#32, 6#4) := by decide
theorem test_R440_and :
    thumb 0x4008#16 (thumbAt 0x08000000#32 (start [(0#4, 0xF0#32), (1#4, 0x3C#32)] [] 0#4))
      (fun t => t.reg 0#4) = some 0x30#32 := by decide
theorem test_R441_eor :
    thumb 0x4048#16 (thumbAt 0x08000000#32 (start [(0#4, 0x5#32), (1#4, 0x5#32)] [] 0#4))
      (fun t => (t.reg 0#4, nzcv t)) = some (0#32, 4#4) := by decide
theorem test_R442_lslReg :
    thumb 0x4088#16 (thumbAt 0x08000000#32 (start [(0#4, 0x1#32), (1#4, 0x20#32)] [] 0#4))
      (fun t => (t.reg 0#4, nzcv t, t.sys.cost)) = some (0#32, 6#4, 1) := by decide
theorem test_R443_lsrReg :
    thumb 0x40C8#16 (thumbAt 0x08000000#32 (start [(0#4, 0x80000000#32), (1#4, 0x1F#32)] [] 0#4))
      (fun t => (t.reg 0#4, nzcv t)) = some (1#32, 0#4) := by decide
theorem test_R444_asrReg :
    thumb 0x4108#16 (thumbAt 0x08000000#32 (start [(0#4, 0x80000000#32), (1#4, 0x28#32)] [] 0#4))
      (fun t => (t.reg 0#4, nzcv t)) = some (0xFFFFFFFF#32, 10#4) := by decide
theorem test_R445_adc :
    thumb 0x4148#16 (thumbAt 0x08000000#32 (start [(0#4, 0x1#32), (1#4, 0x1#32)] [] 2#4))
      (fun t => (t.reg 0#4, nzcv t)) = some (3#32, 0#4) := by decide
theorem test_R446_sbc :
    thumb 0x4188#16 (thumbAt 0x08000000#32 (start [(0#4, 0x5#32), (1#4, 0x3#32)] [] 2#4))
      (fun t => (t.reg 0#4, nzcv t)) = some (2#32, 2#4) := by decide
theorem test_R447_rorReg :
    thumb 0x41C8#16 (thumbAt 0x08000000#32 (start [(0#4, 0x1#32), (1#4, 0x1#32)] [] 0#4))
      (fun t => (t.reg 0#4, nzcv t)) = some (0x80000000#32, 10#4) := by decide
theorem test_R448_tst :
    thumb 0x4208#16 (thumbAt 0x08000000#32 (start [(0#4, 0xF0#32), (1#4, 0xF#32)] [] 0#4))
      (fun t => (t.reg 0#4, nzcv t)) = some (0xF0#32, 4#4) := by decide
theorem test_R449_neg :
    thumb 0x4248#16 (thumbAt 0x08000000#32 (start [(1#4, 0x1#32)] [] 0#4))
      (fun t => (t.reg 0#4, nzcv t)) = some (0xFFFFFFFF#32, 8#4) := by decide
theorem test_R450_cmpReg :
    thumb 0x4288#16 (thumbAt 0x08000000#32 (start [(0#4, 0x80000000#32), (1#4, 0x1#32)] [] 0#4))
      (fun t => nzcv t) = some 3#4 := by decide
theorem test_R451_cmn :
    thumb 0x42C8#16 (thumbAt 0x08000000#32 (start [(0#4, 0xFFFFFFFF#32), (1#4, 0x1#32)] [] 0#4))
      (fun t => nzcv t) = some 6#4 := by decide
theorem test_R452_orr :
    thumb 0x4308#16 (thumbAt 0x08000000#32 (start [(0#4, 0x80000000#32), (1#4, 0x1#32)] [] 0#4))
      (fun t => (t.reg 0#4, nzcv t)) = some (0x80000001#32, 8#4) := by decide
theorem test_R453_mul :
    thumb 0x4348#16 (thumbAt 0x08000000#32 (start [(0#4, 0x7#32), (1#4, 0x6#32)] [] 0#4))
      (fun t => (t.reg 0#4, t.sys.cost)) = some (42#32, 1) := by decide
theorem test_R454_bic :
    thumb 0x4388#16 (thumbAt 0x08000000#32 (start [(0#4, 0xFF#32), (1#4, 0xF#32)] [] 0#4))
      (fun t => t.reg 0#4) = some 0xF0#32 := by decide
theorem test_R455_mvn :
    thumb 0x43C8#16 (thumbAt 0x08000000#32 (start [] [] 0#4))
      (fun t => (t.reg 0#4, nzcv t)) = some (0xFFFFFFFF#32, 8#4) := by decide
theorem test_R461_addHi :
    thumb 0x4480#16 (thumbAt 0x08000000#32 (start [(0#4, 0x5#32), (8#4, 0x10#32)] [] 15#4))
      (fun t => (t.reg 8#4, nzcv t)) = some (0x15#32, 15#4) := by decide
theorem test_R462_cmpHi :
    thumb 0x4540#16 (thumbAt 0x08000000#32 (start [(0#4, 0x3#32), (8#4, 0x3#32)] [] 0#4))
      (fun t => nzcv t) = some 6#4 := by decide
theorem test_R463_movHi :
    thumb 0x4640#16 (thumbAt 0x08000000#32 (start [(8#4, 0x1234#32)] [] 0#4))
      (fun t => t.reg 0#4) = some 0x1234#32 := by decide
theorem test_R464_bxLr :
    thumb 0x4770#16 (thumbAt 0x08000000#32 (start [(14#4, 0x8000201#32)] [] 0#4))
      (fun t => (t.cpu.cpsr.t, t.cpu.pc)) = some (true, 0x08000200#32) := by decide
theorem test_R464_bxArm :
    thumb 0x4700#16 (thumbAt 0x08000000#32 (start [(0#4, 0x8000300#32)] [] 0#4))
      (fun t => (t.cpu.cpsr.t, t.cpu.pc)) = some (false, 0x08000300#32) := by decide

/-! ## THUMB memory: 46_thumb_mem.md R480..R504 -/

theorem test_R480_ldrPc :
    thumb 0x4801#16 (thumbAt 0x08000102#32 (withRom 0x200 (start [] [(0x08000108, 0x77#32)] 0#4)))
      (fun t => t.reg 0#4) = some 0x77#32 := by decide
theorem test_R481_str :
    thumb 0x5088#16 (thumbAt 0x08000000#32 (start [(0#4, 0x7#32), (1#4, 0x3000000#32), (2#4, 0x8#32)] [] 0#4))
      (fun t => word 0x03000008 t) = some 7#32 := by decide
theorem test_R482_strb :
    thumb 0x5488#16 (thumbAt 0x08000000#32 (start [(0#4, 0x1FF#32), (1#4, 0x3000000#32), (2#4, 0x3#32)] [] 0#4))
      (fun t => word 0x03000000 t) = some 0xFF000000#32 := by decide
theorem test_R483_ldr :
    thumb 0x5888#16 (thumbAt 0x08000000#32 (start [(1#4, 0x3000000#32), (2#4, 0x2#32)] [(0x03000000, 0x11223344#32)] 0#4))
      (fun t => t.reg 0#4) = some 0x33441122#32 := by decide
theorem test_R484_ldrb :
    thumb 0x5C88#16 (thumbAt 0x08000000#32 (start [(1#4, 0x3000000#32), (2#4, 0x1#32)] [(0x03000000, 0x11223344#32)] 0#4))
      (fun t => t.reg 0#4) = some 0x33#32 := by decide
theorem test_R485_strh :
    thumb 0x5288#16 (thumbAt 0x08000000#32 (start [(0#4, 0x12345678#32), (1#4, 0x3000000#32), (2#4, 0x2#32)] [] 0#4))
      (fun t => word 0x03000000 t) = some 0x56780000#32 := by decide
theorem test_R486_ldsb :
    thumb 0x5688#16 (thumbAt 0x08000000#32 (start [(1#4, 0x3000000#32), (2#4, 0x1#32)] [(0x03000000, 0xFE00#32)] 0#4))
      (fun t => t.reg 0#4) = some 0xFFFFFFFE#32 := by decide
theorem test_R487_ldrh :
    thumb 0x5A88#16 (thumbAt 0x08000000#32 (start [(1#4, 0x3000000#32)] [(0x03000000, 0x8001#32)] 0#4))
      (fun t => t.reg 0#4) = some 0x8001#32 := by decide
theorem test_R488_ldsh :
    thumb 0x5E88#16 (thumbAt 0x08000000#32 (start [(1#4, 0x3000000#32)] [(0x03000000, 0x8001#32)] 0#4))
      (fun t => t.reg 0#4) = some 0xFFFF8001#32 := by decide
theorem test_R489_strImm :
    thumb 0x6048#16 (thumbAt 0x08000000#32 (start [(0#4, 0x9#32), (1#4, 0x3000000#32)] [] 0#4))
      (fun t => word 0x03000004 t) = some 9#32 := by decide
theorem test_R490_ldrImm :
    thumb 0x6848#16 (thumbAt 0x08000000#32 (start [(1#4, 0x3000000#32)] [(0x03000004, 0x9#32)] 0#4))
      (fun t => t.reg 0#4) = some 9#32 := by decide
theorem test_R491_strbImm :
    thumb 0x7048#16 (thumbAt 0x08000000#32 (start [(0#4, 0x41#32), (1#4, 0x3000000#32)] [] 0#4))
      (fun t => word 0x03000000 t) = some 0x4100#32 := by decide
theorem test_R492_ldrbImm :
    thumb 0x7848#16 (thumbAt 0x08000000#32 (start [(1#4, 0x3000000#32)] [(0x03000000, 0x4100#32)] 0#4))
      (fun t => t.reg 0#4) = some 0x41#32 := by decide
theorem test_R493_strhImm :
    thumb 0x8048#16 (thumbAt 0x08000000#32 (start [(0#4, 0xBEEF#32), (1#4, 0x3000000#32)] [] 0#4))
      (fun t => word 0x03000000 t) = some 0xBEEF0000#32 := by decide
theorem test_R494_ldrhImm :
    thumb 0x8848#16 (thumbAt 0x08000000#32 (start [(1#4, 0x3000000#32)] [(0x03000000, 0xBEEF0000#32)] 0#4))
      (fun t => t.reg 0#4) = some 0xBEEF#32 := by decide
theorem test_R495_strSp :
    thumb 0x9002#16 (thumbAt 0x08000000#32 (start [(0#4, 0x9#32), (13#4, 0x3007F00#32)] [] 0#4))
      (fun t => word 0x03007F08 t) = some 9#32 := by decide
theorem test_R496_ldrSp :
    thumb 0x9802#16 (thumbAt 0x08000000#32 (start [(13#4, 0x3007F00#32)] [(0x03007F08, 0x55#32)] 0#4))
      (fun t => t.reg 0#4) = some 0x55#32 := by decide
theorem test_R497_addPc :
    thumb 0xA002#16 (thumbAt 0x08000102#32 (start [] [] 0#4)) (fun t => t.reg 0#4) = some 0x0800010C#32 := by decide
theorem test_R498_addSp :
    thumb 0xA802#16 (thumbAt 0x08000000#32 (start [(13#4, 0x3007F00#32)] [] 0#4))
      (fun t => t.reg 0#4) = some 0x03007F08#32 := by decide
theorem test_R499_addSpImm :
    thumb 0xB004#16 (thumbAt 0x08000000#32 (start [(13#4, 0x3007F00#32)] [] 0#4))
      (fun t => t.reg 13#4) = some 0x03007F10#32 := by decide
theorem test_R499_subSpImm :
    thumb 0xB084#16 (thumbAt 0x08000000#32 (start [(13#4, 0x3007F00#32)] [] 0#4))
      (fun t => t.reg 13#4) = some 0x03007EF0#32 := by decide
theorem test_R500_push :
    thumb 0xB501#16 (thumbAt 0x08000000#32 (start [(0#4, 0x1#32), (13#4, 0x3007F00#32), (14#4, 0x8000123#32)] [] 0#4))
      (fun t => (word 0x03007EF8 t, word 0x03007EFC t, t.reg 13#4)) = some (1#32, 0x08000123#32, 0x03007EF8#32) := by decide
theorem test_R501_pop :
    thumb 0xBD01#16 (thumbAt 0x08000000#32 (start [(13#4, 0x3007EF8#32)] [(0x03007EF8, 0x1#32), (0x03007EFC, 0x8000123#32)] 0#4))
      (fun t => (t.reg 0#4, t.reg 13#4, t.cpu.pc, t.cpu.cpsr.t)) = some (1#32, 0x03007F00#32, 0x08000122#32, true) := by decide
theorem test_R502_stmia :
    thumb 0xC006#16 (thumbAt 0x08000000#32 (start [(0#4, 0x3000000#32), (1#4, 0x1#32), (2#4, 0x2#32)] [] 0#4))
      (fun t => (word 0x03000000 t, word 0x03000004 t, t.reg 0#4)) = some (1#32, 2#32, 0x03000008#32) := by decide
theorem test_R503_ldmia :
    thumb 0xC803#16 (thumbAt 0x08000000#32 (start [(0#4, 0x3000000#32)] [(0x03000000, 0x5#32), (0x03000004, 0x6#32)] 0#4))
      (fun t => (t.reg 0#4, t.reg 1#4)) = some (5#32, 6#32) := by decide
theorem test_R504_ldmiaEmpty :
    thumb 0xC800#16 (thumbAt 0x08000000#32 (start [(0#4, 0x3000000#32)] [(0x03000000, 0x8000201#32)] 0#4))
      (fun t => (t.reg 0#4, t.cpu.pc)) = some (0x03000040#32, 0x08000200#32) := by decide

/-! ## THUMB branches: 47_thumb_branch.md R530..R535 -/

theorem test_R530_beq :
    thumb 0xD0FE#16 (thumbAt 0x08000000#32 (start [] [] 4#4)) (fun t => t.cpu.pc) = some 0x08000000#32 := by decide
theorem test_R532_b :
    thumb 0xE7FE#16 (thumbAt 0x08000000#32 (start [] [] 0#4)) (fun t => t.cpu.pc) = some 0x08000000#32 := by decide
theorem test_R535_blPrefix :
    thumb 0xF000#16 (thumbAt 0x08000000#32 (start [] [] 0#4))
      (fun t => (t.reg 14#4, t.cpu.pc)) = some (0x08000004#32, 0x08000002#32) := by decide
theorem test_R535_blSuffix :
    thumb 0xFFFE#16 (thumbAt 0x08000002#32 (start [(14#4, 0x8000004#32)] [] 0#4))
      (fun t => (t.cpu.pc, t.reg 14#4)) = some (0x08001000#32, 0x08000005#32) := by decide
theorem test_vec38_blBack :
    thumb 0xF7FF#16 (thumbAt 0x08001000#32 (start [] [] 0#4)) (fun t => t.reg 14#4) = some 0x08000004#32 := by decide

/-! ## The bus and the devices: 95_test_vectors.md §3.10..§3.16 -/

/-- The bus of a state with words of memory. -/
def bus (words : List (Nat × Word)) : Sys := (start [] words 0#4).sys

/-- What a write leaves to read. -/
def wrote {α : Type} (f : Sys → α) : Except Fault Sys → Option α
  | .ok y => some (f y)
  | .error _ => none

/-- §3.10: an unmapped word read yields the last fetch, lane by lane for a byte. -/
theorem test_vec310_openBus :
    (({ bus [] with lastFetch := 0x12345678#32 } : Sys).memRead .word 0x10000001#32).1 = 0x12345678#32 ∧
    (({ bus [] with lastFetch := 0x12345678#32 } : Sys).memRead .byte 0x10000002#32).1 = 0x34#32 := by decide

/-- §3.10: EWRAM, IWRAM and VRAM mirrors. -/
theorem test_vec310_mirrors :
    ((bus [(0x02000000, 0x11#32)]).memRead .byte 0x02040000#32).1 = 0x11#32 ∧
    ((bus [(0x03007FFC, 0x22#32)]).memRead .word 0x03FFFFFC#32).1 = 0x22#32 ∧
    ((bus [(0x06010000, 0x33#32)]).memRead .half 0x06018000#32).1 = 0x33#32 ∧
    ((bus [(0x06000000, 0x44#32)]).memRead .half 0x06020000#32).1 = 0x44#32 := by decide

/-- §3.10: byte writes to VRAM and palette RAM reach both bytes of the halfword, in the object part neither. -/
theorem test_vec310_byteWrites :
    wrote (fun y => Memory.read16 y.mem 0x06000000) ((bus []).memWrite .byte 0x06000001#32 0xAB#32) = some 0xABAB#16 ∧
    wrote (fun y => Memory.read16 y.mem 0x06010000) ((bus []).memWrite .byte 0x06010000#32 0xAB#32) = some 0#16 ∧
    wrote (fun y => Memory.read16 y.mem 0x05000002) ((bus []).memWrite .byte 0x05000003#32 0x1F#32) = some 0x1F1F#16 ∧
    wrote (fun y => y.mem) ((bus []).memWrite .byte 0x07000000#32 0xAB#32) = some [] := by decide

/-- §3.10: beyond the ROM image a halfword reads as its own number. -/
theorem test_vec310_romPastEnd :
    (({ bus [] with params := { Params.reset with romSize := 0x100 } } : Sys).memRead .word 0x08000200#32).1 =
      0x01010100#32 := by decide

/-- §3.11: IF is cleared by writing ones, in the lane of a byte write only. -/
theorem test_vec311_ifAck :
    wrote (fun y => y.iflag) (({ bus [] with iflag := 0x0009#16 } : Sys).memWrite .byte 0x04000202#32 8#32) = some 1#16 ∧
    wrote (fun y => y.iflag) (({ bus [] with iflag := 0x0101#16 } : Sys).memWrite .byte 0x04000203#32 1#32) = some 1#16 ∧
    wrote (fun y => (y.ie, y.iflag)) (({ bus [] with iflag := 9#16 } : Sys).memWrite .word 0x04000200#32 0x00010008#32) =
      some (8#16, 8#16) := by decide

/-- §3.11: HALTCNT halts or stops. -/
theorem test_vec311_haltcnt :
    wrote (fun y => y.halted) ((bus []).memWrite .half 0x04000300#32 0#32) = some true ∧
    wrote (fun y => y.halted) ((bus []).memWrite .byte 0x04000301#32 0x80#32) = none := by decide

/-- Timer 0 of §3.12, started at 100. -/
def timer0 : Timer := { reload := 0xFFF0#16, control := 0x0081#16, counter0 := 0xFFF0#17, start := 100 }

/-- §3.12: reads of the timer. -/
theorem test_vec312_timer :
    timer0.value 0 163 = 0xFFF0#16 ∧ timer0.value 0 164 = 0xFFF1#16 ∧ timer0.value 0 1123 = 0xFFFF#16 ∧
    timer0.value 0 1124 = 0xFFF0#16 ∧ timer0.value 0 1444 = 0xFFF5#16 := by decide

/-- 61_timers_dma.md R611, R613, decision D34: the count-up bit of running timer 0 is ignored and changes neither counter
nor phase; of timer 1 it re-phases, and so does the prescaler of timer 0. -/
theorem test_R613_countUp :
    timer0.writeControl 0 200 0x0085#16 = { timer0 with control := 0x0085#16 } ∧
    timer0.writeControl 1 200 0x0085#16 = { timer0 with control := 0x0085#16, counter0 := 0xFFF1#17, start := 200 } ∧
    timer0.writeControl 0 200 0x0080#16 = { timer0 with control := 0x0080#16, counter0 := 0xFFF1#17, start := 200 } := by
  decide

/-- §3.12: a 32-bit write sets the reload first, then starts the timer from it; the overflow comes 256 cycles later. -/
theorem test_vec312_timerWrite :
    wrote (fun y => ((y.timer 0).counter0, y.events.map (fun e => e.cycle)))
      ((bus []).memWrite .word 0x04000100#32 0x00C0FF00#32) = some (0xFF00#17, [256, 1006]) := by decide

/-- §3.16: the cost of fetches and accesses. -/
theorem test_vec316_costs :
    accessCost 0#16 .nonseq .word 0x08000000#32 = 8 ∧ accessCost 0#16 .seq .word 0x08000000#32 = 6 ∧
    accessCost 0#16 .nonseq .half 0x08000000#32 = 5 ∧ accessCost 0#16 .nonseq .word 0x02000000#32 = 6 ∧
    accessCost 0x4317#16 .nonseq .word 0x08000000#32 = 6 ∧ accessCost 0x4317#16 .seq .word 0x08000000#32 = 4 ∧
    accessCost 0#16 .nonseq .word 0x0C000000#32 = 14 ∧ accessCost 0#16 .seq .word 0x0C000000#32 = 18 ∧
    accessCost 0x4317#16 .nonseq .word 0x0E000000#32 = 9 := by decide

/-- Channel 0 with two words to copy from EWRAM to IWRAM, its interrupt enabled. -/
def dmaBus : Sys :=
  (bus [(0x02000000, 0x11#32), (0x02000004, 0x22#32)]).setDma 0
    { DmaChannel.reset with sad := 0x02000000#32, dad := 0x03000000#32, cntL := 2#16, cntH := 0xC400#16,
                            isrc := 0x02000000#32, idst := 0x03000000#32, icount := 2#17, armed := true }

/-- §3.13: the run copies, costs 7 cycles a word and 2 more, requests IF bit 8 and disarms the channel. -/
theorem test_vec313_dma :
    wrote (fun y => (Memory.read32 y.mem 0x03000000, Memory.read32 y.mem 0x03000004)) (dmaBus.runDma 0) =
      some (0x11#32, 0x22#32) ∧
    wrote (fun y => (y.now, y.iflag, (y.dmaChannel 0).armed, (y.dmaChannel 0).cntH)) (dmaBus.runDma 0) =
      some (16, 0x0100#16, false, 0x4400#16) := by
  refine ⟨?_, ?_⟩ <;> decide

/-- Channel 0 awaits VBlank with one halfword, `value`, to store in DMA1CNT_H; channel 1 has control `cntH1` and awaits its
trigger if `armed1`. -/
def vblankBus (value : Word) (cntH1 : Half) (armed1 : Bool) : Sys :=
  ((bus [(0x02000000, value)]).setDma 0
    { DmaChannel.reset with cntH := 0x9000#16, isrc := 0x02000000#32, idst := 0x040000C6#32, icount := 1#17, armed := true }).setDma 1
    { DmaChannel.reset with cntH := cntH1, isrc := 0x02000000#32, idst := 0x03000000#32, icount := 1#17, armed := armed1 }

/-- 61_timers_dma.md R623: a channel armed within a trigger waits for the next one, a channel disarmed within it does not
run, and one armed at the trigger and at its turn runs, once, and is done. -/
theorem test_R623_turns :
    wrote (fun y => ((y.dmaChannel 1).armed, (y.dmaChannel 1).cntH)) ((vblankBus 0x9000#32 0#16 false).dmaTrigger .vblank) =
      some (true, 0x9000#16) ∧
    wrote (fun y => (y.mem.any (fun c => c.1 == 0x03000000), (y.dmaChannel 1).armed))
      ((vblankBus 0x1000#32 0x9000#16 true).dmaTrigger .vblank) = some (false, false) ∧
    wrote (fun y => (Memory.read16 y.mem 0x03000000, (y.dmaChannel 1).armed))
      ((vblankBus 0x9000#32 0x9000#16 true).dmaTrigger .vblank) = some (0x9000#16, false) := by
  refine ⟨?_, ?_, ?_⟩ <;> decide

/-- 61_timers_dma.md R639: a handler cut short is left pending, and its run comes before any other event. -/
theorem test_R639_pending :
    wrote (fun y => (y.dmaPending, (y.dmaChannel 0).armed)) (dmaBus.dmaEvent 0 0) = some (some 0, true) ∧
    wrote (fun y => y.dmaPending) (({ dmaBus with dmaPending := some 0, now := 2000 } : Sys).dispatchDue 1) = some none ∧
    wrote (fun y => y.events.map (fun e => e.kind)) (({ dmaBus with dmaPending := some 0, now := 2000 } : Sys).dispatchDue 1) =
      some [.hdrawEnd] := by decide

/-- A bus with an EEPROM of a kind. -/
def eepromBus (k : BackupKind) : Sys := { bus [] with params := { Params.reset with backup := k } }

/-- 20_memory.md R152: the first DMA3 transfer into the window sizes an EEPROM without a size, no other channel or address
does, and no later transfer. -/
theorem test_R152_size :
    ((eepromBus .eeprom).sizeEeprom 3 0x0D000000#32 9).eeprom.wide = some false ∧
    ((eepromBus .eeprom).sizeEeprom 3 0x0D000000#32 73).eeprom.wide = some false ∧
    ((eepromBus .eeprom).sizeEeprom 3 0x0DFFFFFE#32 17).eepromAddressBits = 14 ∧
    (((eepromBus .eeprom).sizeEeprom 3 0x0D000000#32 81).sizeEeprom 3 0x0D000000#32 9).eepromBlocks = 1024 ∧
    ((eepromBus .eeprom).sizeEeprom 2 0x0D000000#32 9).eeprom.wide = none ∧
    ((eepromBus .eeprom).sizeEeprom 3 0x0C000000#32 9).eeprom.wide = none ∧
    ((eepromBus .eeprom512).sizeEeprom 3 0x0D000000#32 17).eepromAddressBits = 6 := by decide

/-- 20_memory.md R152: a read request for block 63 of an EEPROM512 leaves 68 bits, four 0 bits and the block's, then 1. -/
theorem test_R152_read :
    let y := [true, true, true, true, true, true, true, true, false].foldl (fun y b => y.deviceWriteBit b)
      (eepromBus .eeprom512)
    y.eeprom.out.length = 68 ∧ y.eeprom.out.take 5 = [false, false, false, false, true] ∧
    (eepromBus .eeprom512).deviceReadBit.1 = true := by decide

/-- 70_reset_and_hazards.md R779: the errors of `new`. -/
theorem test_R779_errors :
    Backup.ofName "Flash128K" = some .flash128k ∧ Backup.ofName "EEPROM" = some .eeprom ∧ Backup.ofName "RTC" = none ∧
    (match newMachine Params.reset [] [] "SRAM" with
      | .error e => some e
      | .ok _ => none) = some .badBios := by decide

/-- §3.14: the colour effects. -/
theorem test_vec314_effects :
    alphaBlend { Ppu.reset with bldalpha := 0x0808#16 } 0x001F#16 0x7C00#16 = 0x3C0F#16 ∧
    alphaBlend { Ppu.reset with bldalpha := 0x1010#16 } 0x7FFF#16 0x7FFF#16 = 0x7FFF#16 ∧
    brighten { Ppu.reset with bldy := 8#16 } 0#16 = 0x3DEF#16 ∧ brighten { Ppu.reset with bldy := 20#16 } 0#16 = 0x7FFF#16 ∧
    darken { Ppu.reset with bldy := 8#16 } 0x7FFF#16 = 0x4210#16 ∧
    darken { Ppu.reset with bldy := 16#16 } 0x7FFF#16 = 0#16 := by decide

/-- §3.14: windows that wrap, are cut off at the right, and are empty. -/
theorem test_vec314_windows :
    inWindow 0xC828#16 0x00A0#16 220 5 = true ∧ inWindow 0xC828#16 0x00A0#16 39 5 = true ∧
    inWindow 0xC828#16 0x00A0#16 40 5 = false ∧ inWindow 0x00FA#16 0x00A0#16 239 5 = true ∧
    inWindow 0x6464#16 0x00A0#16 100 5 = false := by decide

/-- 62_ppu.md R742: mode 3, one plotted pixel. -/
theorem test_R742_mode3 :
    pixelColour [(0x06000000, 0xFF#8), (0x06000001, 0x7F#8)] { Ppu.reset with dispcnt := 0x0403#16 } 0 0 = 0x7FFF#16 ∧
    pixelColour [(0x06000000, 0xFF#8), (0x06000001, 0x7F#8)] { Ppu.reset with dispcnt := 0x0403#16 } 0 1 = 0#16 := by
  decide

/-! ## Steps: 95_test_vectors.md §3.3, §3.9, program P5 -/

/-- A state whose next step runs MOV R0, #1 (0xE3A00001), from IWRAM. -/
def mov1 : State := armAt 0x03000000#32 (start [] [] 0#4) |>.withFetchWord 32 0xE3A00001

theorem test_step_runs : seen (fun t => (t.reg 0#4, t.cpu.pc, t.sys.now)) (step mov1) = some (1#32, 0x03000004#32, 1) := by
  decide

/-- §3.9: with IME, IE and IF set and I clear the IRQ is entered after the instruction. -/
theorem test_vec39_irqTaken :
    seen (entry .irq 1) (step (mov1.withSys { mov1.sys with ime := true, ie := 8#16, iflag := 8#16 })) =
      some (0x03000008#32, 0x1F#32, 0x92#32, 0x18#32) := by decide

/-- §3.9: without IME it is not. -/
theorem test_vec39_irqMasked :
    seen (fun t => t.cpu.pc) (step (mov1.withSys { mov1.sys with ie := 8#16, iflag := 8#16 })) = some 0x03000004#32 := by
  decide

/-- P5: a halted CPU is woken by a masked interrupt at the cycle of the next event, with no exception. -/
theorem test_P5_wake :
    seen (fun t => (t.sys.halted, t.sys.now, t.sys.iflag, t.cpu.pc))
      (step (mov1.withSys (({ mov1.sys with halted := true, ie := 8#16 }.setTimer 0
        { reload := 0xFF00#16, control := 0x00C0#16, counter0 := 0xFF00#17, start := 45 }).schedule 301 (.timer 0)))) =
      some (false, 301, 8#16, 0x03000000#32) := by decide

/-- 60_exceptions.md R577: STRB R0, [R1] (0xE5C10000) to HALTCNT with a source already pending: the halt ends after the
instruction, and no cycles are skipped. -/
theorem test_R577_haltPending :
    seen (fun t => (t.sys.halted, t.sys.now, t.cpu.pc))
      (step ((armAt 0x03000000#32 (start [(1#4, 0x04000301#32)] [] 0#4) |>.withFetchWord 32 0xE5C10000).withSys
        { mov1.sys with ie := 8#16, iflag := 8#16 })) = some (false, 2, 0x03000004#32) := by decide

/-- 70_reset_and_hazards.md R775, R776: no frame is answered unfinished, nor one inside a dispatch. -/
theorem test_R776_unfinished :
    (mov1.stepFrame 3).isNone = true ∧ mov1.frameOver 0 = true ∧
    (mov1.withSys { mov1.sys with midDispatch := true }).frameOver 0 = false := by decide

/-- 30_encoding.md R205, R206 (§3.3): the conditions for the flags 1001 and 0110. -/
theorem test_vec33_conditions :
    (([.eq, .ne, .cs, .cc, .mi, .pl, .vs, .vc, .hi, .ls, .ge, .lt, .gt, .le, .al, .nv] : List Cond).map
      (fun c => condHolds c (start [] [] 9#4).cpu.cpsr)) =
      [false, true, false, true, true, false, true, false, false, true, true, false, true, false, true, false] ∧
    (([.eq, .ne, .cs, .cc, .mi, .pl, .vs, .vc, .hi, .ls, .ge, .lt, .gt, .le, .al, .nv] : List Cond).map
      (fun c => condHolds c (start [] [] 6#4).cpu.cpsr)) =
      [true, false, true, false, false, true, false, true, false, true, true, false, false, true, true, false] := by decide

/-! ## Witnesses: for every statement with hypotheses, a state and operands that meet them -/

/-- System mode in ARM state, nothing set. -/
def sys0 : State := start [] [] 0#4

/-- The same in THUMB state, running from IWRAM. -/
def thumb0 : State := thumbAt 0x03000000#32 sys0

/-- Supervisor mode, with a valid mode in its SPSR. -/
def svc0 : State := returning

/-- Supervisor mode, with an invalid mode in its SPSR. -/
def svcBad : State := inMode 0b10011#5 sys0

theorem test_witness_DecodeEncodeArm :
    (Instr.b .al 0xFFFFFE#24).wellFormed = true ∧ encode (.b .al 0xFFFFFE#24) = .arm 0xEAFFFFFE#32 := by decide

theorem test_witness_DecodeEncodeThumb :
    (Instr.tB 0x7FE#11).wellFormed = true ∧ encode (.tB 0x7FE#11) = .thumb 0xE7FE#16 := by decide

theorem test_witness_StepRunsDecoded :
    (Instr.movImm .al false 0#4 0#4 1#8).wellFormed = true ∧
    encode (.movImm .al false 0#4 0#4 1#8) = .arm mov1.cpu.pipe0 ∧
    mov1.cpu.cpsr.t = false ∧ mov1.sys.halted = false ∧ mov1.sys.midDispatch = false := by decide

theorem test_witness_StepRunsDecodedThumb :
    let s := thumb0.withFetchWord 16 0x2080
    (Instr.tMovImm8 0#3 0x80#8).wellFormed = true ∧
    encode (.tMovImm8 0#3 0x80#8) = .thumb (s.cpu.pipe0.extractLsb' 0 16) ∧
    s.cpu.cpsr.t = true ∧ s.sys.halted = false ∧ s.sys.midDispatch = false := by decide

theorem test_witness_ConditionFails :
    condHolds (instrCond (.b .eq 0#24)) sys0.cpu.cpsr = false ∧
    condHolds (instrCond (.tBcond0xxx .eq 0#8)) thumb0.cpu.cpsr = false := by decide

/-- The operation of the first two clauses of AluArithmetic; the third takes a function. -/
theorem test_witness_AluArithmetic :
    ((DpOp.adc = .add ∧ 5#32 = 5#32) ∨ (DpOp.adc = .adc ∧ (1 : Nat) = true.toNat)) ∧
    (DpOp.rsc = .rsc ∧ (0 : Nat) = 1 - true.toNat) ∧
    (DpOp.bic = .bic ∧ (fun p q => p && !q : Bool → Bool → Bool) = fun p q => p && !q) := ⟨by decide, by decide, rfl, rfl⟩

theorem test_witness_ShifterArithmetic : 255#8 ≠ 0#8 ∧ 31#5 ≠ 0#5 := by decide

/-- For DpImmediateShift and DpImmediateForm, with the highest destination that is no branch. -/
theorem test_witness_DpImmediate :
    condHolds .al sys0.cpu.cpsr = true ∧ (dpWritesRd .add = true → 14#4 ≠ 15#4) ∧
    (dpWritesRd .cmp = true → 15#4 ≠ 15#4) := by decide

theorem test_witness_DpRegisterShift :
    condHolds .al (strictly sys0).cpu.cpsr = true ∧ (dpWritesRd .add = true → 14#4 ≠ 15#4) ∧
    ((strictly sys0).strict = true → 14#4 ≠ 15#4) := by decide

/-- One state for each clause of DpWritesPc. -/
theorem test_witness_DpWritesPc :
    condHolds .al sys0.cpu.cpsr = true ∧ dpWritesRd .mov = true ∧ sys0.strict = false ∧
    svc0.cpu.currentSpsr = some { Psr.zero with m := 0b11111#5 } ∧ modeValid 0b11111#5 = true ∧
    svcBad.cpu.currentSpsr = some Psr.zero ∧ modeValid Psr.zero.m = false ∧
    sys0.cpu.currentSpsr = none ∧ (strictly sys0).cpu.currentSpsr = none ∧ (strictly sys0).strict = true := by decide

theorem test_witness_Multiplies :
    condHolds .al (strictly sys0).cpu.cpsr = true ∧ 14#4 ≠ 15#4 ∧ 13#4 ≠ 15#4 ∧
    ((strictly sys0).strict = true → 1#4 ≠ 15#4 ∧ 2#4 ≠ 15#4 ∧ 14#4 ≠ 13#4 ∧ 14#4 ≠ 2#4 ∧ 13#4 ≠ 2#4) := by decide

/-- One state for each clause of MrsReads. -/
theorem test_witness_MrsReads :
    condHolds .al sys0.cpu.cpsr = true ∧ 14#4 ≠ 15#4 ∧ svc0.cpu.currentSpsr = some { Psr.zero with m := 0b11111#5 } ∧
    sys0.cpu.currentSpsr = none ∧ sys0.strict = false ∧ (strictly sys0).cpu.currentSpsr = none ∧
    (strictly sys0).strict = true := by decide

/-- One mask, value and state for each clause of MsrWrites. -/
theorem test_witness_MsrWrites :
    condHolds .al sys0.cpu.cpsr = true ∧ (8#4).getLsbD 0 = false ∧ (inMode 0b10000#5 sys0).cpu.cpsr.m = 0b10000#5 ∧
    (9#4).getLsbD 0 = true ∧ sys0.cpu.cpsr.m ≠ 0b10000#5 ∧ modeValid ((0x1F#32).extractLsb' 0 5) = true ∧
    modeValid ((0x00#32).extractLsb' 0 5) = false ∧ (0x3F#32).getLsbD 5 ≠ (strictly sys0).cpu.cpsr.t ∧
    modeValid ((0x3F#32).extractLsb' 0 5) = true ∧ (strictly sys0).strict = true ∧
    svc0.cpu.bank.spsrIndex = some 2 ∧ sys0.cpu.bank.spsrIndex = none ∧ sys0.strict = false := by decide

theorem test_witness_ArmBranches : condHolds .al sys0.cpu.cpsr = true ∧ sys0.cpu.cpsr.t = false := by decide

/-- The last word of IWRAM before its first mirror, and the mirror. -/
theorem test_witness_BranchRefills :
    sys0.sys.plainFetch 0x03007FFC#32 = true ∧ sys0.sys.plainFetch 0x03008000#32 = true := by decide

/-- One instruction for each form of ArmLoads. -/
theorem test_witness_ArmLoads :
    condHolds .al (strictly sys0).cpu.cpsr = true ∧
    Instr.loadImm .word (.pre true) .al true 1#4 0#4 4#12 = .ldrImmPre .al true true 1#4 0#4 4#12 ∧
    Instr.loadReg .byte .post .al false 1#4 0#4 2#5 .lsl 2#4 = .ldrbRegPost .al false 1#4 0#4 2#5 .lsl 2#4 ∧
    Instr.loadHalfImm .half .al true true false 1#4 0#4 0#4 2#4 = .ldrhImm .al true true false 1#4 0#4 0#4 2#4 ∧
    Instr.loadHalfReg .signedHalf .al true false false 1#4 0#4 2#4 = .ldrshReg .al true false false 1#4 0#4 2#4 ∧
    ((strictly sys0).strict = true → 1#4 ≠ 15#4 ∧ 0#4 ≠ 1#4 ∧ 2#4 ≠ 15#4) := by decide

theorem test_witness_RamLoadValues :
    Region.of 0x0203FFFF#32 = .ewram ∧ Region.of 0x03007FFF#32 = .iwram := by decide

/-- One store for each form of ArmStores, at the last word of IWRAM. -/
theorem test_witness_ArmStores :
    let s := start [(1#4, 0x03007FFC#32)] [] 0#4
    condHolds .al s.cpu.cpsr = true ∧ s.sys.storeStops .word 0x03007FFC#32 0#32 = false ∧
    s.sys.storeStops .byte 0x03007FFF#32 0#32 = false ∧ s.sys.storeStops .half 0x03007FFE#32 0#32 = false ∧
    Instr.storeImm .word .translated .al true 1#4 0#4 0#12 = .strtImm .al true 1#4 0#4 0#12 ∧
    Instr.storeReg .byte (.pre false) .al true 1#4 0#4 0#5 .lsl 2#4 = .strbRegPre .al true false 1#4 0#4 0#5 .lsl 2#4 := by
  decide

theorem test_witness_StoreThenLoad :
    Region.of 0x0203FFFF#32 = .ewram ∧ Region.of 0x0207FFFF#32 = Region.of 0x0203FFFF#32 ∧
    (0x0207FFFF#32).toNat % 0x40000 = (0x0203FFFF#32).toNat % 0x40000 ∧
    Region.of (Width.half.align 0x07000001#32) ≠ .io := by decide

theorem test_witness_Swaps :
    let s := strictly (start [(2#4, 0x03000000#32)] [] 0#4)
    condHolds .al s.cpu.cpsr = true ∧ 0#4 ≠ 15#4 ∧ 2#4 ≠ 1#4 ∧ 2#4 ≠ 0#4 ∧
    (s.sys.load .nonseq .word (s.reg 2#4)).2.storeStops .word (s.reg 2#4) (s.reg 1#4) = false ∧
    (s.sys.load .nonseq .byte (s.reg 2#4)).2.storeStops .byte (s.reg 2#4) (s.reg 1#4) = false := by decide

/-- Blocks that end at the last word of IWRAM before the I/O region, for the four forms of StoreMultiples. -/
theorem test_witness_StoreMultiples :
    let s := strictly (inMode 0b10010#5 (start [(0#4, 0x03FFFFF8#32)] [] 0#4))
    condHolds .al s.cpu.cpsr = true ∧ s.reg 0#4 = 0x03FFFFF8#32 ∧ blockOutsideIo 0x03FFFFF8#32 2 = true ∧
    (0x03FFFFF8#32).toNat + 4 * 2 ≤ 0x04000000 ∧ s.cpu.bank ≠ .usr ∧
    blockOutsideIo 0x03007EFC#32 1 = true ∧ blockOutsideIo 0x03000000#32 16 = true := by decide

/-- For the six forms of LoadMultiples, and the invalid saved mode. -/
theorem test_witness_LoadMultiples :
    let s := strictly (inMode 0b10010#5 (start [(0#4, 0x03000000#32)] [] 0#4))
    condHolds .al s.cpu.cpsr = true ∧ s.sys.blockPlain 0x03000000#32 16 = true ∧
    (0x7FFF#16).getLsbD 15 = false ∧ (0x8000#16).getLsbD 15 = true ∧ s.cpu.bank ≠ .usr ∧
    svc0.cpu.currentSpsr = some { Psr.zero with m := 0b11111#5 } ∧ modeValid 0b11111#5 = true ∧
    sys0.cpu.currentSpsr = none ∧ sys0.strict = false ∧ sys0.sys.blockPlain 0x03000000#32 1 = true ∧
    condHolds .al svcBad.cpu.cpsr = true ∧ svcBad.cpu.currentSpsr = some Psr.zero ∧ modeValid Psr.zero.m = false := by
  decide

/-- For ExceptionEntry. -/
theorem test_witness_ExceptionEntry : Exception.irq ≠ .reset ∧ Params.reset.skipBios = false := by decide

theorem test_witness_TrapInstructions :
    condHolds (instrCond (.swi .al 5#24)) sys0.cpu.cpsr = true ∧ (Instr.swi .al 5#24).raisesSwi = true ∧
    condHolds (instrCond (.undefMedia 0xE7F000F0#32)) sys0.cpu.cpsr = true ∧
    (Instr.undefMedia 0xE7F000F0#32).raisesUndefined = true ∧
    condHolds (instrCond (.tUndef11101 0xE800#16)) thumb0.cpu.cpsr = true ∧
    (Instr.tUndef11101 0xE800#16).raisesUndefined = true := by decide

/-- With no event due before cycle 1006, the queue is as it was after an instruction. -/
theorem test_witness_HaltAndInterrupt :
    mov1.sys.halted = false ∧ mov1.sys.midDispatch = false ∧
    ∃ t, mov1.rollFrame.executeOne = .next t ∧ t.commit.sys.dispatchDue Config.dispatchBudget = .ok t.commit.sys ∧
      t.commit.sys.dispatchLeft = false :=
  ⟨by decide, by decide, _, rfl, rfl, by decide⟩

/-- A dispatch handed over, with nothing left to do. -/
theorem test_witness_HaltAndInterruptHandedOver :
    let s := sys0.withSys { sys0.sys with midDispatch := true }
    s.sys.midDispatch = true ∧ s.rollFrame.sys.dispatchDue Config.dispatchBudget = .ok s.rollFrame.sys ∧
    s.rollFrame.sys.dispatchLeft = false := ⟨by decide, rfl, by decide⟩

/-- A halted CPU whose frame ends, so that its idle step reaches no event. -/
def asleep : State :=
  sys0.withSys { sys0.sys with halted := true, events := [], now := 5 }

theorem test_witness_HaltAndInterruptIdle :
    asleep.sys.halted = true ∧ asleep.sys.midDispatch = false ∧
    asleep.rollFrame.idle.sys.dispatchDue Config.dispatchBudget = .ok asleep.rollFrame.idle.sys ∧
    asleep.rollFrame.idle.sys.dispatchLeft = false :=
  ⟨by decide, by decide, rfl, by decide⟩

/-- For ThumbLoads, ThumbAddresses, ThumbBranches, ThumbHiRegisters and ThumbStores. -/
theorem test_witness_Thumb :
    thumb0.cpu.cpsr.t = true ∧ condHolds .ne thumb0.cpu.cpsr = true ∧
    ((strictly thumb0).strict = true → true = true ∨ false = true) ∧ ((strictly thumb0).strict = true → false = false) ∧
    thumb0.sys.storeStops .word 0x03000000#32 0#32 = false ∧ thumb0.sys.storeStops .half 0x03000000#32 0#32 = false ∧
    thumb0.sys.storeStops .byte 0x03000000#32 0#32 = false := by decide

/-- For RegisterFrame and StatusFrame: an instruction that goes on, a register it does not write, and no flags. -/
theorem test_witness_RegisterFrame :
    (∃ t, exec (.movImm .al false 0#4 0#4 1#8) sys0 = .next t) ∧
    (∀ x ∈ (Instr.movImm .al false 0#4 0#4 1#8).destinations sys0, x.2 = 15#4 ∨ (29 : Fin 30) ≠ physIndex x.1 x.2) ∧
    (Instr.movImm .al false 0#4 0#4 1#8).effects = Effects.none :=
  ⟨next_of_seen (by decide), by decide, by decide⟩

/-- For MemoryFrame: a store that goes on, and the byte after it. -/
theorem test_witness_MemoryFrame :
    (∃ t, exec (.strImmPre .al true false 1#4 0#4 0#12) (start [(1#4, 0x03000000#32)] [] 0#4) = .next t) ∧
    (∀ x ∈ (Instr.strImmPre .al true false 1#4 0#4 0#12).stores (start [(1#4, 0x03000000#32)] [] 0#4),
      (start [(1#4, 0x03000000#32)] [] 0#4).sys.storeTouches x.1 x.2 0x03000004 = false) :=
  ⟨next_of_seen (by decide), by decide⟩

theorem test_witness_ReadsHaveNoEffect :
    (∃ t, exec (.ldrImmPre .al true false 1#4 0#4 0#12) sys0 = .next t) ∧
    (Instr.ldrImmPre .al true false 1#4 0#4 0#12).stores sys0 = [] := ⟨next_of_seen (by decide), by decide⟩

theorem test_witness_UserModeConfined :
    let s := inMode 0b10000#5 sys0
    s.cpu.cpsr.m = 0b10000#5 ∧ (Instr.msrReg .al false 9#4 0#4).raisesSwi = false ∧
    (Instr.msrReg .al false 9#4 0#4).raisesUndefined = false ∧ ∃ t, exec (.msrReg .al false 9#4 0#4) s = .next t :=
  ⟨by decide, by decide, by decide, next_of_seen (by decide)⟩

/-- A step that faults though UNPREDICTABLE cases are emulated: MSR CPSR_c, #0 (95_test_vectors.md §3.9). -/
theorem test_witness_StepNeverRefuses :
    let s := sys0.withFetchWord 32 0xE321F000
    s.sys.params.unpred = .emulate ∧ step s = .fault (.invalidMode 0#5) := ⟨by decide, rfl⟩

theorem test_witness_StepKeepsCpuLegal : mov1.cpu.legal ∧ ∃ t, step mov1 = .next t :=
  ⟨⟨by decide, by decide⟩, next_of_seen (by decide)⟩

/-- Also for StepKeepsReadOnly and StepAdvancesTime: a step that goes on, a read-only byte, no cost left. -/
theorem test_witness_StepKeepsMemoryCanonical :
    mov1.memoryCanonical ∧ mov1.sys.halted = false ∧ mov1.sys.midDispatch = false ∧ mov1.sys.cost = 0 ∧
    readOnlyKey 0x3FFF = true ∧ readOnlyKey 0x09FFFFFF = true :=
  ⟨⟨by decide, by decide⟩, by decide, by decide, by decide, by decide, by decide⟩

theorem test_witness_StepKeepsSchedule : mov1.sys.queueOrdered ∧ mov1.sys.ppuCoherent := by
  have he : mov1.sys.events = [{ cycle := 1006, kind := .hdrawEnd, seq := 0 }] := by decide
  refine ⟨⟨?_, ?_, ?_⟩, by decide, by decide, by decide, by decide, ?_, ?_⟩
  · rw [he]; exact List.pairwise_singleton _ _
  · rw [he]; decide
  · rw [he]; exact List.pairwise_singleton _ _
  · rw [he]
    intro e h _
    exact ⟨0, by rw [List.mem_singleton.mp h], by decide⟩
  · rw [he]
    intro e h hk
    rw [List.mem_singleton.mp h] at hk
    exact absurd hk (by decide)

theorem test_witness_StepKeepsReservedClear : mov1.sys.reservedClear := by
  refine ⟨?_, ?_, ?_, ?_, ?_, ?_, ?_⟩ <;> decide

/-- The last value before the overflow and the last cycle of a prescaler period. -/
theorem test_witness_TimerCounts :
    timer0.freeCounting 0 = true ∧ timer0.counter0.toNat < 0x10000 ∧ 63 < timer0.prescale ∧
    timer0.counter0.toNat + 15 < 0x10000 ∧ 15 < 0x10000 - timer0.reload.toNat := by decide

/-- Timer 2 free-counting. -/
theorem test_witness_TimerOverflowCascades :
    ({ Timer.reset with control := 0x0080#16 } : Timer).freeCounting 2 = true := by decide

/-- Arming and disarming values of each control register, the capture mode, and a write that changes neither. -/
theorem test_witness_DmaArming :
    let masked (v : Half) : Half := v &&& 0xFFE0#16
    (DmaChannel.reset.cntH).getLsbD 15 = false ∧ (masked 0x8000#16).getLsbD 15 = true ∧
    (masked 0x8000#16).extractLsb' 12 2 = 0#2 ∧ (masked 0xB000#16).extractLsb' 12 2 = 3#2 ∧
    (masked 0x9000#16).extractLsb' 12 2 = 1#2 ∧ (0x8000#16).getLsbD 15 = true ∧ (masked 0#16).getLsbD 15 = false ∧
    DmaChannel.reset.cntH.getLsbD 15 = (masked 0x4000#16).getLsbD 15 := by decide

/-- The last two words of EWRAM and IWRAM. -/
theorem test_witness_DmaCopiesWords :
    let d : DmaChannel := { DmaChannel.reset with
      isrc := 0x0203FFF8#32, idst := 0x03007FF8#32, icount := 2#17, cntH := 0xC400#16, armed := true }
    0x3FFF8 % 4 = 0 ∧ 0x7FF8 % 4 = 0 ∧ 0x3FFF8 + 4 * 2 ≤ 0x40000 ∧ 0x7FF8 + 4 * 2 ≤ 0x8000 ∧
    d.isrc = BitVec.ofNat 32 (0x02000000 + 0x3FFF8) ∧ d.idst = BitVec.ofNat 32 (0x03000000 + 0x7FF8) ∧
    d.icount.toNat = 2 ∧ d.cntH.extractLsb' 12 2 ≠ 3#2 ∧ d.cntH.getLsbD 10 = true ∧ d.cntH.extractLsb' 7 2 = 0#2 ∧
    d.cntH.extractLsb' 5 2 = 0#2 ∧ d.cntH.getLsbD 9 = false := by decide

theorem test_witness_LineEvents : ∀ c : Fin 4, (sys0.sys.dmaChannel c).armed = false := by decide

/-- Forced blank, and mode 3 with BG2 at the last line. -/
theorem test_witness_RenderedLine :
    let p : Ppu := { Ppu.reset with dispcnt := 0x0403#16, bg2 := { AffineBg.reset with ry := BitVec.ofNat 28 (256 * 159) } }
    Ppu.reset.dispcnt.getLsbD 7 = true ∧ p.dispcnt.extractLsb' 0 3 = 3#3 ∧
    p.dispcnt.extractLsb' 7 9 = 0b000001000#9 ∧ p.bldcnt.extractLsb' 6 2 = 0#2 ∧ p.bg2.pa = 0x0100#16 ∧
    p.bg2.pc = 0#16 ∧ p.bg2.rx = 0#28 ∧ p.bg2.ry = BitVec.ofNat 28 (256 * 159) := by decide

theorem test_witness_UnpredictableFaults :
    condHolds (instrCond (.mul .al false 1#4 2#4 15#4)) (strictly sys0).cpu.cpsr = true ∧ (strictly sys0).strict = true ∧
    (Instr.mul .al false 1#4 2#4 15#4).unpredictableCases (strictly sys0) = [.multiplyR15] ∧
    exec (.mul .al false 1#4 2#4 15#4) (strictly sys0) = .fault (.unpredictable .multiplyR15) :=
  ⟨by decide, by decide, by decide, rfl⟩

/-- For each clause of EmulatedWritesPc. -/
theorem test_witness_EmulatedWritesPc :
    let s := start [(2#4, 0x03000000#32)] [] 0#4
    condHolds .al s.cpu.cpsr = true ∧ s.strict = false ∧ condHolds .al svc0.cpu.cpsr = true ∧ svc0.strict = false ∧
    svc0.cpu.currentSpsr = some { Psr.zero with m := 0b11111#5 } ∧ s.cpu.currentSpsr = none ∧
    (s.sys.load .nonseq .word (s.reg 2#4)).2.storeStops .word (s.reg 2#4) (s.reg 1#4) = false ∧
    (s.sys.load .nonseq .byte (s.reg 2#4)).2.storeStops .byte (s.reg 2#4) (s.reg 1#4) = false := by decide

end Sys2Proof.Tests
end

section
/-! PROOFS. O10 (spec/00_scope.md R15, 40_arm_dataproc.md R280..R295): the two adders of the model in exact arithmetic,
and the sixteen operations by way of them. -/

namespace Sys2Proof.Machine

open Sys2Proof

theorem getLsbD_31_eq_decide (x : Word) : x.getLsbD 31 = decide (2 ^ 31 ≤ x.toNat) :=
  (BitVec.msb_eq_getLsbD_last x).symm.trans (BitVec.msb_eq_decide x)

theorem bitWord_toNat (b : Bool) : (bitWord b).toNat = b.toNat := by cases b <;> rfl

theorem toNat_not_add_toNat (b : Bool) : (!b).toNat + b.toNat = 1 := by cases b <;> rfl

theorem addWithCarry_result_toNat (a b : Word) (c : Bool) :
    (addWithCarry a b c).result.toNat = (a.toNat + b.toNat + c.toNat) % 2 ^ 32 := by
  simp [addWithCarry, BitVec.toNat_add, bitWord_toNat]

theorem addWithCarry_carry (a b : Word) (c : Bool) :
    (addWithCarry a b c).carry = decide (2 ^ 32 ≤ a.toNat + b.toNat + c.toNat) :=
  decide_eq_decide.2 (by omega)

/-- V of a sum is the exact signed sum lying outside 32 bits. -/
theorem addWithCarry_overflow (a b : Word) (c : Bool) :
    (addWithCarry a b c).overflow =
      decide (a.toInt + b.toInt + c.toNat < -2147483648 ∨ 2147483647 < a.toInt + b.toInt + c.toNat) := by
  have hr := addWithCarry_result_toNat a b c
  have ha := a.isLt
  have hb := b.isLt
  have hc := Bool.toNat_le c
  show overflowAdd a b (addWithCarry a b c).result = _
  generalize (addWithCarry a b c).result = r at hr
  rw [overflowAdd, Bool.eq_iff_iff]
  simp only [BitVec.getLsbD_and, BitVec.getLsbD_xor, Bool.and_eq_true, bne_iff_ne, ne_eq]
  simp only [getLsbD_31_eq_decide, decide_eq_decide, BitVec.toInt_eq_toNat_cond, decide_eq_true_eq]
  split <;> split <;> omega

/-- The three parts of a sum in exact arithmetic (00_scope.md R15). -/
theorem addWithCarry_exact (a b : Word) (c : Bool) :
    (addWithCarry a b c).result.toNat = (a.toNat + b.toNat + c.toNat) % 2 ^ 32 ∧
    (addWithCarry a b c).carry = decide (2 ^ 32 ≤ a.toNat + b.toNat + c.toNat) ∧
    (addWithCarry a b c).overflow =
      decide (a.toInt + b.toInt + c.toNat < -2147483648 ∨ 2147483647 < a.toInt + b.toInt + c.toNat) :=
  ⟨addWithCarry_result_toNat a b c, addWithCarry_carry a b c, addWithCarry_overflow a b c⟩

/-- A difference is the sum with the complement, in its result and in both flags. -/
theorem subWithCarry_eq_addWithCarry_not (a b : Word) (c : Bool) : subWithCarry a b c = addWithCarry a (~~~b) c := by
  have hb := b.isLt
  have hc := toNat_not_add_toNat c
  have result : a - b - bitWord (!c) = a + ~~~b + bitWord c := by
    refine BitVec.eq_of_toNat_eq ?_
    simp only [BitVec.toNat_sub, BitVec.toNat_add, BitVec.toNat_not, bitWord_toNat]
    omega
  have carry : notBorrowFrom a b (!c) = carryFrom a (~~~b) c :=
    decide_eq_decide.2 (by rw [BitVec.toNat_not]; omega)
  have overflow (r : Word) : overflowSub a b r = overflowAdd a (~~~b) r := by
    simp only [overflowSub, overflowAdd, BitVec.getLsbD_and, BitVec.getLsbD_xor, BitVec.getLsbD_not]
    cases a.getLsbD 31 <;> cases b.getLsbD 31 <;> cases r.getLsbD 31 <;> rfl
  simp only [subWithCarry, addWithCarry, result, carry, overflow]

/-- The three parts of a difference in exact arithmetic (00_scope.md R15). -/
theorem subWithCarry_exact (a b : Word) (c : Bool) :
    ((subWithCarry a b c).result.toNat : Int) = ((a.toNat : Int) - b.toNat - (!c).toNat) % 2 ^ 32 ∧
    (subWithCarry a b c).carry = decide (b.toNat + (!c).toNat ≤ a.toNat) ∧
    (subWithCarry a b c).overflow =
      decide (a.toInt - b.toInt - (!c).toNat < -2147483648 ∨ 2147483647 < a.toInt - b.toInt - (!c).toNat) := by
  obtain ⟨hr, -, hv⟩ := addWithCarry_exact a (~~~b) c
  have hb := b.isLt
  have hc := toNat_not_add_toNat c
  have hn : (~~~b).toInt = -b.toInt - 1 := by
    simp only [BitVec.toInt_eq_toNat_cond, BitVec.toNat_not]
    split <;> split <;> omega
  rw [BitVec.toNat_not] at hr
  rw [hn] at hv
  exact ⟨by rw [subWithCarry_eq_addWithCarry_not]; omega, rfl,
    by rw [subWithCarry_eq_addWithCarry_not]; exact hv.trans (decide_eq_decide.2 (by omega))⟩

/-- Settles O10: the sums and differences by the exact laws of the two adders, the logical operations bit by bit. -/
theorem aluArithmetic : Obligations.AluArithmetic := by
  intro a b c v sc
  have hk : 1 - c.toNat = (!c).toNat := by cases c <;> rfl
  refine ⟨?sums, ?differences, ?bitwise⟩
  case sums =>
    rintro op x y k (⟨rfl, rfl, rfl, rfl⟩ | ⟨rfl, rfl, rfl, rfl⟩ | ⟨rfl, rfl, rfl, rfl⟩)
    · exact addWithCarry_exact _ _ false
    · exact addWithCarry_exact _ _ false
    · exact addWithCarry_exact _ _ c
  case differences =>
    rintro op x y k (⟨rfl, rfl, rfl, rfl⟩ | ⟨rfl, rfl, rfl, rfl⟩ | ⟨rfl, rfl, rfl, rfl⟩ | ⟨rfl, rfl, rfl, rfl⟩ |
      ⟨rfl, rfl, rfl, rfl⟩)
    · exact subWithCarry_exact _ _ true
    · exact subWithCarry_exact _ _ true
    · exact subWithCarry_exact _ _ true
    · exact hk ▸ subWithCarry_exact _ _ c
    · exact hk ▸ subWithCarry_exact _ _ c
  case bitwise =>
    rintro op f (⟨rfl, rfl⟩ | ⟨rfl, rfl⟩ | ⟨rfl, rfl⟩ | ⟨rfl, rfl⟩ | ⟨rfl, rfl⟩ | ⟨rfl, rfl⟩ | ⟨rfl, rfl⟩ |
      ⟨rfl, rfl⟩) <;>
    exact ⟨fun k hk => by simp [dpCompute, logical, hk], rfl, rfl⟩

end Sys2Proof.Machine
end

section
/-! PROOFS. O30 and O46 (spec/00_scope.md R11, R12): what an instruction can answer.  `Answers` says it of a result for the
UNPREDICTABLE cases that apply; one lemma per shared operation, then one arm per instruction. -/

namespace Sys2Proof.Machine

open Sys2Proof

/-! ## Faults that are not UNPREDICTABLE cases -/

/-- The faults an instruction may raise whatever the policy: an invalid mode and the two faults of the bus. -/
def PlainFault (f : Fault) : Prop := (∃ m, modeValid m = false ∧ f = .invalidMode m) ∨ BusFault f

theorem PlainFault.ne_unpredictable {f : Fault} (h : PlainFault f) (k : UnpredCase) : f ≠ .unpredictable k := by
  rintro rfl
  rcases h with ⟨_, _, h⟩ | h | h <;> cases h

/-- What is answered is a next state or a plain fault. -/
structure Plain (r : Result) : Prop where
  notRefused : ∀ x, r ≠ .refused x
  faults : ∀ f, r = .fault f → PlainFault f

theorem Plain.next (t : State) : Plain (.next t) := ⟨fun _ h => (nomatch h), fun _ h => (nomatch h)⟩

theorem Plain.fault {f : Fault} (h : PlainFault f) : Plain (.fault f) :=
  ⟨fun _ h => (nomatch h), fun _ e => by cases e; exact h⟩

theorem Plain.ite {c : Prop} [Decidable c] {r r' : Result} (h : c → Plain r) (h' : ¬ c → Plain r') :
    Plain (if c then r else r') := by
  split
  · exact h ‹_›
  · exact h' ‹_›

/-- Going on after an access of the bus. -/
theorem Plain.orFault {α : Type} {x : Except Fault α} {k : α → Result} (hx : BusSafe x) (hk : ∀ a, Plain (k a)) :
    Plain (orFault x k) := by
  cases x with
  | ok a => exact hk a
  | error f => exact .fault (.inr (hx f rfl))

/-! ## Answers -/

/-- What is answered where the cases `cs` apply: under the policy `fault` (`strict`) one of them when there is one, and
otherwise a next state or a plain fault. -/
structure Answers (strict : Bool) (r : Result) (cs : List UnpredCase) : Prop where
  notRefused : ∀ x, r ≠ .refused x
  stops : strict = true → cs ≠ [] → ∃ k ∈ cs, r = .fault (.unpredictable k)
  faults : ∀ f, r = .fault f → (strict = true ∧ ∃ k ∈ cs, f = .unpredictable k) ∨ PlainFault f

section
variable {strict : Bool} {cs : List UnpredCase} {r : Result}

theorem Plain.answers (h : Plain r) : Answers strict r [] :=
  ⟨h.notRefused, fun _ hc => absurd rfl hc, fun f e => .inr (h.faults f e)⟩

theorem Answers.next {t : State} : Answers strict (.next t) [] := (Plain.next t).answers

/-- Under the policy `emulate` no answer is an UNPREDICTABLE fault (00_scope.md R12). -/
theorem Answers.plain (h : Answers strict r cs) (hs : strict = false) : Plain r :=
  ⟨h.notRefused, fun f e => (h.faults f e).resolve_left (by simp [hs])⟩

/-- Under the policy `emulate` the cases that apply do not matter (00_scope.md R12). -/
theorem Answers.emulate {cs' : List UnpredCase} (h : Answers strict r cs) (hs : strict = false) : Answers strict r cs' :=
  ⟨h.notRefused, by simp [hs], fun f e => .inr ((h.plain hs).faults f e)⟩

theorem Answers.unpredictable_fault {c : UnpredCase} (hs : strict = true) (hc : c ∈ cs) :
    Answers strict (.fault (.unpredictable c)) cs :=
  ⟨fun _ h => (nomatch h), fun _ _ => ⟨c, hc, rfl⟩, fun _ e => by cases e; exact .inl ⟨hs, c, hc, rfl⟩⟩

end

section
variable {s : State} {cs : List UnpredCase} {k : Result}

/-- A case checked before the rest: the rest is reached when the case does not hold or is emulated (00_scope.md R12). -/
theorem Answers.check {c : UnpredCase} {bad : Bool} (h : (s.strict = true → bad = false) → Answers s.strict k cs) :
    Answers s.strict (s.unpredictable c bad k) (caseIf bad c ++ cs) := by
  cases hs : s.strict with
  | false =>
    rw [State.unpredictable_ok (by simp [hs]), ← hs]
    exact (h (by simp [hs])).emulate hs
  | true =>
    cases bad with
    | false => rw [State.unpredictable_ok (by simp)]; exact hs ▸ h (fun _ => rfl)
    | true => rw [State.unpredictable_fault hs rfl]; exact .unpredictable_fault rfl (by simp [caseIf])

theorem Answers.unpredictable {c : UnpredCase} {bad : Bool} (h : Answers s.strict k cs) :
    Answers s.strict (s.unpredictable c bad k) (caseIf bad c ++ cs) := .check fun _ => h

/-- A case checked before the rest, none of the rest having a case of its own. -/
theorem Answers.last {c : UnpredCase} {bad : Bool} (h : Plain k) :
    Answers s.strict (s.unpredictable c bad k) (caseIf bad c) := by
  simpa using Answers.unpredictable (s := s) (c := c) (bad := bad) h.answers

/-- An optional case, when it applies. -/
def optionalCase (c : Option UnpredCase) (bad : Bool) : List UnpredCase :=
  match c with
  | some c => caseIf bad c
  | none => []

theorem Answers.lastOptional {c : Option UnpredCase} {bad : Bool} (h : Plain k) :
    Answers s.strict (s.unpredictableCase c bad k) (optionalCase c bad) := by
  cases c with
  | none => exact h.answers
  | some c => exact .last h

/-- The cases of an instruction apply when its condition passes (30_encoding.md R206). -/
theorem Answers.whenPassed {c : Cond} {k : State → Result} (h : Answers s.strict (k s) cs) :
    Answers s.strict (s.whenPassed c k) (if condHolds c s.cpu.cpsr then cs else []) := by
  unfold State.whenPassed
  split
  · exact h
  · exact .next

theorem Answers.passedNext {c : Cond} {f : State → State} :
    Answers s.strict (s.whenPassed c fun t => .next (f t)) (if condHolds c s.cpu.cpsr then [] else []) :=
  .whenPassed .next

end

/-! ## Shared operations -/

theorem Cpu.currentSpsr_eq_none_iff (c : Cpu) : c.currentSpsr = none ↔ c.noSpsr = true := by
  unfold Cpu.currentSpsr Cpu.noSpsr
  cases c.bank <;> simp [Bank.spsrIndex]

theorem Cpu.noSpsr_of_currentSpsr {c : Cpu} {p : Psr} (h : c.currentSpsr = some p) : c.noSpsr = false := by
  simpa [h] using (Cpu.currentSpsr_eq_none_iff c).symm

/-- The return from an exception where there is an SPSR (60_exceptions.md R557). -/
theorem restoreCpsr_plain {st : State} {k : State → Result} (h : st.cpu.currentSpsr ≠ none) (hk : ∀ t, Plain (k t)) :
    Plain (orFault st.restoreCpsr k) := by
  obtain ⟨p, hp⟩ := Option.ne_none_iff_exists'.1 h
  rw [State.restoreCpsr_some hp]
  cases hm : modeValid p.m with
  | true => exact hk _
  | false => exact .fault (.inl ⟨p.m, hm, rfl⟩)

/-- The return from an exception (40_arm_dataproc.md R275). -/
theorem restoreCpsr_answers {st : State} {k : State → Result} (hk : ∀ t, Plain (k t)) :
    Answers st.strict (orFault st.restoreCpsr k) (spsrCase true st) := by
  cases hn : st.cpu.noSpsr with
  | false =>
    simp only [spsrCase, hn]
    exact (restoreCpsr_plain (by simp [Cpu.currentSpsr_eq_none_iff, hn]) hk).answers
  | true =>
    have e : orFault st.restoreCpsr k = st.unpredictable .spsrInUserSystem true (k st) := by
      simp only [State.restoreCpsr, (Cpu.currentSpsr_eq_none_iff _).2 hn, State.unpredictable, Bool.true_and]
      split <;> rfl
    simp only [spsrCase, hn, e]
    exact .last (hk st)

theorem storeReg_plain {w : Width} {a v : Word} {wb : Bool} {rn : RegNum} {moved : Word} {st : State} :
    Plain (st.storeReg w a v wb rn moved) := .orFault (store_safe _ _ _ _ _) fun _ => .next _

theorem storeBlock_safe {b : Bank} {kind : Access} {a : Word} {rs : List RegNum} {st : State} :
    BusSafe (st.storeBlock b kind a rs) := by
  induction rs generalizing kind a st with
  | nil => exact .ok _
  | cons r rs ih =>
    unfold State.storeBlock
    split
    · exact ih
    · rename_i f hf
      exact .error (store_safe _ _ _ _ _ f hf)

theorem storeMultiple_plain {b : Bank} {plan : BlockPlan} {wb : Bool} {rn : RegNum} {st : State} :
    Plain (st.storeMultiple b plan wb rn) := by
  unfold State.storeMultiple
  split
  · exact .next _
  · exact .orFault storeBlock_safe fun _ => .orFault storeBlock_safe fun _ => .next _

/-- A load-multiple, restoring the CPSR only where there is an SPSR (43_arm_loadstore.md R370). -/
theorem loadMultiple_plain {b : Bank} {plan : BlockPlan} {wb : Bool} {rn : RegNum} {restore : Bool} {st : State}
    (h : restore = true → st.cpu.noSpsr = false) : Plain (st.loadMultiple b plan wb rn restore) := by
  unfold State.loadMultiple
  simp only
  split
  · exact .next _
  · refine .ite (fun hr => restoreCpsr_plain ?_ fun _ => .next _) (fun _ => .next _)
    rw [State.loadedSpsr, ne_eq, Cpu.currentSpsr_eq_none_iff, h hr]
    exact Bool.false_ne_true

/-! ## Data processing and multiplies -/

theorem dataProcessing_answers {op : DpOp} {s : Bool} {rd : RegNum} {a b : Word} {sc : Bool} {st : State} :
    Answers st.strict (dataProcessing op s rd a b sc st) (spsrCase (s && (dpWritesRd op && rd == 15#4)) st) := by
  unfold dataProcessing
  cases hp : dpWritesRd op && rd == 15#4 <;> cases s
  · exact .next
  · exact .next
  · exact .next
  · exact restoreCpsr_answers fun _ => .next _

theorem dpShiftImmediate_answers {op : DpOp} {s : Bool} {rn rd : RegNum} {n : BitVec 5} {k : ShiftKind} {rm : RegNum}
    {st : State} :
    Answers st.strict (dpShiftImmediate op s rn rd n k rm st) (spsrCase (s && (dpWritesRd op && rd == 15#4)) st) :=
  dataProcessing_answers

theorem dpImmediate_answers {op : DpOp} {s : Bool} {rn rd : RegNum} {r : BitVec 4} {v : BitVec 8} {st : State} :
    Answers st.strict (dpImmediate op s rn rd r v st) (spsrCase (s && (dpWritesRd op && rd == 15#4)) st) :=
  dataProcessing_answers

theorem dpShiftRegister_answers {op : DpOp} {s : Bool} {rn rd rs : RegNum} {k : ShiftKind} {rm : RegNum} {st : State} :
    Answers st.strict (dpShiftRegister op s rn rd rs k rm st)
      (caseIf (rs == 15#4) .shiftByR15 ++ caseIf (dpWritesRd op && rd == 15#4) .regShiftWritesR15 ++
      spsrCase (s && (dpWritesRd op && rd == 15#4)) st) := by
  rw [List.append_assoc]
  exact .unpredictable (.unpredictable (dataProcessing_answers (st := st.internal 1)))

/-- The register-shift form of the four tests, which write no register (40_arm_dataproc.md R276). -/
theorem dpShiftRegister_test_answers {op : DpOp} {s : Bool} {rn rd rs : RegNum} {k : ShiftKind} {rm : RegNum}
    {st : State} (h : dpWritesRd op = false) :
    Answers st.strict (dpShiftRegister op s rn rd rs k rm st) (caseIf (rs == 15#4) .shiftByR15) := by
  simpa [h, caseIf, spsrCase] using
    dpShiftRegister_answers (op := op) (s := s) (rn := rn) (rd := rd) (rs := rs) (k := k) (rm := rm) (st := st)

theorem contains_pc_cons (r : RegNum) (l : List RegNum) : (r :: l).contains 15#4 = (r == 15#4 || l.contains 15#4) := by
  rw [List.contains_cons, BEq.comm]

theorem mul_answers {s : Bool} {rd rs rm : RegNum} {st : State} :
    Answers st.strict (multiplyShort s rd rs rm none st)
      (multiplyCases [rd, rs, rm] ++ caseIf (rd == rm) .mulRdRm) := by
  have e : [rd, rs, rm].contains 15#4 =
      (rd == 15#4 || rs == 15#4 || rm == 15#4 || (none : Option RegNum) == some 15#4) := by
    simp only [contains_pc_cons, Bool.or_assoc]
    rfl
  rw [multiplyCases, e]
  exact .unpredictable (.last (.next _))

theorem mla_answers {s : Bool} {rd rn rs rm : RegNum} {st : State} :
    Answers st.strict (multiplyShort s rd rs rm (some rn) st)
      (multiplyCases [rd, rn, rs, rm] ++ caseIf (rd == rm) .mulRdRm) := by
  have e : [rd, rn, rs, rm].contains 15#4 = (rd == 15#4 || rs == 15#4 || rm == 15#4 || some rn == some 15#4) := by
    simp only [contains_pc_cons, List.contains_nil, Option.some_beq_some, Bool.or_false]
    ac_rfl
  rw [multiplyCases, e]
  exact .unpredictable (.last (.next _))

theorem multiplyLong_answers {signed acc s : Bool} {rdHi rdLo rs rm : RegNum} {st : State} :
    Answers st.strict (multiplyLong signed acc s rdHi rdLo rs rm st)
      (multiplyCases [rdHi, rdLo, rs, rm] ++ longCases rdHi rdLo rm) := by
  have e : [rdHi, rdLo, rs, rm].contains 15#4 = (rdHi == 15#4 || rdLo == 15#4 || rs == 15#4 || rm == 15#4) := by
    simp only [contains_pc_cons, List.contains_nil, Bool.or_false, Bool.or_assoc]
  rw [multiplyCases, e]
  exact .unpredictable (.unpredictable (.last (.next _)))

/-! ## Status registers -/

theorem writeCpsr_answers {mask : BitVec 4} {v : Word} {st : State} :
    Answers st.strict (writeCpsr mask v st) (msrCases false mask v st) := by
  have e : (st.cpu.cpsr.m != 0b10000#5) = !st.cpu.userMode := rfl
  simp only [writeCpsr, msrCases, e, Bool.not_false, Bool.true_and]
  cases mask.getLsbD 0 && !st.cpu.userMode with
  | false => exact .next
  | true =>
    cases hv : modeValid (v.extractLsb' 0 5) with
    | false => exact (Plain.fault (.inl ⟨_, hv, rfl⟩)).answers
    | true => exact .last (.next _)

theorem writeSpsr_answers {mask : BitVec 4} {v : Word} {st : State} :
    Answers st.strict (writeSpsr mask v st) (msrCases true mask v st) := by
  unfold writeSpsr msrCases spsrCase
  cases hp : st.cpu.currentSpsr with
  | none =>
    rw [(Cpu.currentSpsr_eq_none_iff _).1 hp]
    exact .unpredictable .next
  | some p =>
    rw [Cpu.noSpsr_of_currentSpsr hp]
    exact .next

theorem writePsr_answers {r : Bool} {mask : BitVec 4} {v : Word} {st : State} :
    Answers st.strict (writePsr r mask v st) (msrCases r mask v st) := by
  cases r
  · exact writeCpsr_answers
  · exact writeSpsr_answers

theorem writePsrRegister_answers {r : Bool} {mask : BitVec 4} {rm : RegNum} {st : State} :
    Answers st.strict (writePsrRegister r mask rm st)
      (caseIf (rm == 15#4) .msrFromR15 ++ msrCases r mask (st.reg rm) st) := .unpredictable writePsr_answers

theorem readPsr_answers {r : Bool} {rd : RegNum} {st : State} :
    Answers st.strict (readPsr r rd st) (caseIf (rd == 15#4) .mrsToR15 ++ spsrCase r st) := by
  refine .unpredictable ?_
  cases r with
  | false => exact .next
  | true =>
    cases hp : st.cpu.currentSpsr with
    | none =>
      rw [spsrCase, (Cpu.currentSpsr_eq_none_iff _).1 hp]
      exact .last (.next _)
    | some p =>
      rw [spsrCase, Cpu.noSpsr_of_currentSpsr hp]
      exact .next

/-! ## Loads and stores -/

theorem loadTransfer_answers {k : LoadKind} {x : Indexing} {rn rd : RegNum} {offset : Word} {st : State} :
    Answers st.strict (loadTransfer k x rn rd offset st)
      (loadCases x.writeBack rn rd ++ optionalCase k.toR15Case (rd == 15#4)) := by
  rw [loadCases, storeCases, List.append_assoc]
  exact .unpredictable (.unpredictable (.lastOptional (.next _)))

theorem storeTransfer_answers {w : Width} {x : Indexing} {rn rd : RegNum} {offset : Word} {st : State} :
    Answers st.strict (storeTransfer w x rn rd offset st)
      (storeCases x.writeBack rn ++ optionalCase w.ofR15Case (rd == 15#4)) :=
  .unpredictable (.lastOptional storeReg_plain)

theorem loadImm_answers {k : LoadKind} {x : Indexing} {rn rd : RegNum} {o : BitVec 12} {st : State} :
    Answers st.strict (loadImm k x rn rd o st)
      (loadCases x.writeBack rn rd ++ optionalCase k.toR15Case (rd == 15#4)) :=
  loadTransfer_answers

theorem storeImm_answers {w : Width} {x : Indexing} {rn rd : RegNum} {o : BitVec 12} {st : State} :
    Answers st.strict (storeImm w x rn rd o st)
      (storeCases x.writeBack rn ++ optionalCase w.ofR15Case (rd == 15#4)) :=
  storeTransfer_answers

theorem loadShifted_answers {k : LoadKind} {x : Indexing} {rn rd : RegNum} {n : BitVec 5} {t : ShiftKind} {rm : RegNum}
    {st : State} :
    Answers st.strict (loadShifted k x rn rd n t rm st)
      (caseIf (rm == 15#4) .offsetR15 ++ loadCases x.writeBack rn rd ++
      optionalCase k.toR15Case (rd == 15#4)) := by
  rw [List.append_assoc]
  exact .unpredictable loadTransfer_answers

theorem storeShifted_answers {w : Width} {x : Indexing} {rn rd : RegNum} {n : BitVec 5} {t : ShiftKind} {rm : RegNum}
    {st : State} :
    Answers st.strict (storeShifted w x rn rd n t rm st)
      (caseIf (rm == 15#4) .offsetR15 ++ storeCases x.writeBack rn ++
      optionalCase w.ofR15Case (rd == 15#4)) := by
  rw [List.append_assoc]
  exact .unpredictable storeTransfer_answers

theorem loadHalfImm_answers {k : LoadKind} {p u w : Bool} {rn rd : RegNum} {hi lo : BitVec 4} {st : State} :
    Answers st.strict (loadHalfImm k p u w rn rd hi lo st)
      (caseIf (!p && w) .halfPostIndexW ++ loadCases (!p || w) rn rd ++
      optionalCase k.toR15Case (rd == 15#4)) := by
  rw [List.append_assoc]
  exact .unpredictable loadTransfer_answers

theorem loadHalfReg_answers {k : LoadKind} {p u w : Bool} {rn rd rm : RegNum} {st : State} :
    Answers st.strict (loadHalfReg k p u w rn rd rm st)
      (caseIf (!p && w) .halfPostIndexW ++ caseIf (rm == 15#4) .offsetR15 ++ loadCases (!p || w) rn rd ++
      optionalCase k.toR15Case (rd == 15#4)) := by
  simp only [List.append_assoc]
  exact .unpredictable (.unpredictable loadTransfer_answers)

theorem storeHalfImm_answers {p u w : Bool} {rn rd : RegNum} {hi lo : BitVec 4} {st : State} :
    Answers st.strict (storeHalfImm p u w rn rd hi lo st)
      (caseIf (!p && w) .halfPostIndexW ++ storeCases (!p || w) rn ++ caseIf (rd == 15#4) .strhOfR15) := by
  rw [List.append_assoc]
  exact .unpredictable storeTransfer_answers

theorem storeHalfReg_answers {p u w : Bool} {rn rd rm : RegNum} {st : State} :
    Answers st.strict (storeHalfReg p u w rn rd rm st)
      (caseIf (!p && w) .halfPostIndexW ++ caseIf (rm == 15#4) .offsetR15 ++ storeCases (!p || w) rn ++
      caseIf (rd == 15#4) .strhOfR15) := by
  simp only [List.append_assoc]
  exact .unpredictable (.unpredictable storeTransfer_answers)

theorem swap_answers {k : LoadKind} {w : Width} {rn rd rm : RegNum} {st : State} :
    Answers st.strict (swap k w rn rd rm st) (swapCases rn rd rm) := by
  simp only [swapCases, contains_pc_cons, List.contains_nil, Bool.or_false, ← Bool.or_assoc]
  exact .unpredictable (.last (.orFault (store_safe _ _ _ _ _) fun _ => .next _))

/-! ## Block transfers -/

theorem blockTransfer_answers {load p u w : Bool} {rn : RegNum} {list : BitVec 16} {st : State} :
    Answers st.strict (blockTransfer load p u w rn list st) (caseIf (rn == 15#4) .blockBaseR15) :=
  .last (.ite (fun _ => loadMultiple_plain nofun) (fun _ => storeMultiple_plain))

theorem blockTransferPrivileged_answers {load p u w : Bool} {rn : RegNum} {list : BitVec 16} {st : State}
    (h : st.cpu.noSpsr = false) :
    Answers st.strict (blockTransferPrivileged load p u w rn list st)
      (caseIf (!(load && listHasPc list) && w) .userBankWriteBack) := by
  unfold blockTransferPrivileged
  cases load && listHasPc list with
  | true => exact (loadMultiple_plain fun _ => h).answers
  | false => exact .last (.ite (fun _ => loadMultiple_plain nofun) (fun _ => storeMultiple_plain))

/-- In User and System mode the first case applies, so the others are reached where it is emulated only. -/
theorem blockTransferS_answers {load p u w : Bool} {rn : RegNum} {list : BitVec 16} {st : State} :
    Answers st.strict (blockTransferS load p u w rn list st) (blockCases (!(load && listHasPc list)) w rn st) := by
  rw [blockCases, List.append_assoc]
  refine .check fun hs => ?_
  cases hn : st.cpu.noSpsr with
  | false => exact .unpredictable (blockTransferPrivileged_answers hn)
  | true => exact blockTransfer_answers.emulate (by simpa [hn] using hs)

/-! ## All instructions -/

/-- A word transfer of R15 has no case of its own (43_arm_loadstore.md R355, R357). -/
theorem Answers.word {strict : Bool} {cs : List UnpredCase} {r : Result} (h : Answers strict r (cs ++ [])) :
    Answers strict r cs := by rwa [List.append_nil] at h

/-- The UNPREDICTABLE cases that apply to an instruction: those of the table when its condition passes. -/
def activeCases (i : Instr) (s : State) : List UnpredCase :=
  if condHolds (instrCond i) s.cpu.cpsr then i.unpredictableCases s else []

/-- What each instruction answers (00_scope.md R11, R12); the arms left to the end are the THUMB instructions that always go
on. -/
theorem exec_answers (i : Instr) (s : State) : Answers s.strict (exec i s) (activeCases i s) := by
  cases i
  case andShi | eorShi | subShi | rsbShi | addShi | adcShi | sbcShi | rscShi | tstShi | teqShi | cmpShi | cmnShi | orrShi |
      movShi | bicShi | mvnShi =>
    exact .whenPassed dpShiftImmediate_answers
  case andImm | eorImm | subImm | rsbImm | addImm | adcImm | sbcImm | rscImm | tstImm | teqImm | cmpImm | cmnImm | orrImm |
      movImm | bicImm | mvnImm =>
    exact .whenPassed dpImmediate_answers
  case andShr | eorShr | subShr | rsbShr | addShr | adcShr | sbcShr | rscShr | orrShr | movShr | bicShr | mvnShr =>
    exact .whenPassed dpShiftRegister_answers
  case tstShr | teqShr | cmpShr | cmnShr => exact .whenPassed (dpShiftRegister_test_answers rfl)
  case mul => exact .whenPassed mul_answers
  case mla => exact .whenPassed mla_answers
  case umull | umlal | smull | smlal => exact .whenPassed multiplyLong_answers
  case mrs => exact .whenPassed readPsr_answers
  case msrReg => exact .whenPassed writePsrRegister_answers
  case msrImm => exact .whenPassed writePsr_answers
  case ldrImmPre | ldrImmPost | ldrtImm => exact .whenPassed (.word loadImm_answers)
  case ldrRegPre | ldrRegPost | ldrtReg => exact .whenPassed (.word loadShifted_answers)
  case strImmPre | strImmPost | strtImm => exact .whenPassed (.word storeImm_answers)
  case strRegPre | strRegPost | strtReg => exact .whenPassed (.word storeShifted_answers)
  case ldrbImmPre | ldrbImmPost | ldrbtImm => exact .whenPassed loadImm_answers
  case ldrbRegPre | ldrbRegPost | ldrbtReg => exact .whenPassed loadShifted_answers
  case strbImmPre | strbImmPost | strbtImm => exact .whenPassed storeImm_answers
  case strbRegPre | strbRegPost | strbtReg => exact .whenPassed storeShifted_answers
  case ldrhImm | ldrsbImm | ldrshImm => exact .whenPassed loadHalfImm_answers
  case ldrhReg | ldrsbReg | ldrshReg => exact .whenPassed loadHalfReg_answers
  case strhImm => exact .whenPassed storeHalfImm_answers
  case strhReg => exact .whenPassed storeHalfReg_answers
  case swp | swpb => exact .whenPassed swap_answers
  case stm | ldm => exact .whenPassed blockTransfer_answers
  case stmS | ldmS => exact .whenPassed blockTransferS_answers
  case b | bx | swi | ldcStc | cdp | mrcMcr | undefMul00001 | undefMul00011 | undefSwpX1 | undefSwp10 | undefLdrdStrd |
      undefMiscBx00 | undefMiscBx10 | undefMiscBx11 | undefMisc01xx | undefMisc001x | undefMisc1xx0 | undefMovStatus |
      undefMedia | tBcond0xxx | tBcond10xx | tBcond110x =>
    exact .passedNext
  case bl => dsimp only [exec, execBl]; exact .passedNext
  case tAddHi | tCmpHi | tMovHi | tBx => exact .last (.next _)
  case tStrReg | tStrbReg | tStrhReg | tStrImm | tStrbImm | tStrhImm | tStrSp => exact storeReg_plain.answers
  case tPush | tStmia => exact storeMultiple_plain.answers
  case tPop | tLdmia => exact (loadMultiple_plain (restore := false) nofun).answers
  all_goals exact .next

/-- Settles O30: what every instruction answers, read for one whose condition passes. -/
theorem unpredictableFaults : Obligations.UnpredictableFaults := by
  intro i s hc
  have h := exec_answers i s
  rw [activeCases, if_pos hc] at h
  refine ⟨h.stops, fun k hk => ?_⟩
  rcases h.faults _ hk with ⟨hs, k', hmem, hk'⟩ | hp
  · cases hk'
    exact ⟨hs, hmem⟩
  · exact absurd rfl (hp.ne_unpredictable k)

/-! ## Steps -/

@[simp] theorem State.fetchNext_strict (kind : Access) (s : State) : (s.fetchNext kind).strict = s.strict := by
  obtain ⟨_, h⟩ := SysRun.fetch s.sys kind s.cpu.cpsr.t s.pcRead
  exact congrArg (·.unpred == .fault) h.params

theorem executeOne_answers (s : State) : ∃ cs, Answers s.strict s.executeOne cs := by
  have h := exec_answers s.currentInstr (s.fetchNext (fetchAccess s.currentInstr s.cpu.cpsr))
  rw [State.fetchNext_strict] at h
  exact ⟨_, h⟩

/-- The first half of a step answers what the instruction answers, if one is executed (61_timers_dma.md R603). -/
theorem runCpu_answers (s : State) : ∃ cs, Answers s.strict s.runCpu cs := by
  obtain ⟨cs, h⟩ := executeOne_answers s
  unfold State.runCpu
  split
  · exact ⟨[], .next⟩
  · split
    · exact ⟨[], .next⟩
    · cases he : s.executeOne with
      | next t => exact ⟨[], .next⟩
      | fault f => rw [he] at h; exact ⟨cs, h⟩
      | refused r => exact absurd he (h.notRefused r)

theorem runEvents_plain (s : State) : Plain s.runEvents :=
  .orFault (dispatchDue_safe _ _) fun _ => .ite (fun _ => .next _) (fun _ => .next _)

theorem step_answers (s : State) : ∃ cs, Answers s.strict (step s) cs := by
  obtain ⟨cs, h⟩ := runCpu_answers s.rollFrame
  unfold step State.machineStep
  cases he : s.rollFrame.runCpu with
  | next t => exact ⟨[], (runEvents_plain t).answers⟩
  | fault f => rw [he] at h; exact ⟨cs, h⟩
  | refused r => exact absurd he (h.notRefused r)

/-- Settles O46: what a step answers, read under the policy `emulate` for the faults. -/
theorem stepNeverRefuses : Obligations.StepNeverRefuses := by
  refine ⟨fun s r => ?_, fun s f hp hf => ?_⟩
  · obtain ⟨_, h⟩ := step_answers s
    exact h.notRefused r
  · obtain ⟨_, h⟩ := step_answers s
    exact (h.plain (by simp [State.strict, hp])).faults f hf

end Sys2Proof.Machine
end

section
/-! PROOFS. O41 and O42 (spec/10_state.md R42..R44, R57, R63..R65): the frame of every instruction, its destinations and
effects read from the tables `Instr.destinations` and `Instr.effects`. -/

namespace Sys2Proof.Machine

open Sys2Proof

/-! ## Membership in a table of destinations -/

theorem mem_own {s : State} {l : List RegNum} {r : RegNum} (h : r ∈ l) : (s.cpu.bank, r) ∈ own s l :=
  List.mem_map_of_mem h

theorem mem_baseIf {wb : Bool} (rn : RegNum) (h : wb = true) : rn ∈ baseIf wb rn := by simp [baseIf, h]

/-- The registers of a block are the listed ones, or R15 alone for an empty list (43_arm_loadstore.md R368). -/
theorem mem_blockRegs {list : BitVec 16} {r : RegNum} (h : r ∈ blockRegs list) : r = 15#4 ∨ r ∈ regList list := by
  unfold blockRegs at h
  split at h
  · exact .inl (List.mem_singleton.1 h)
  · exact .inr h

/-- In a mode without an SPSR the view loaded by an LDM with `S = 1` is the current one. -/
theorem State.loadBank_of_noSpsr {s : State} (list : BitVec 16) (h : s.cpu.noSpsr = true) :
    s.loadBank list = s.cpu.bank := by
  unfold State.loadBank
  split
  · rfl
  · exact (eq_of_beq h).symm

/-! ## The families -/

section
variable {e : Effects} {l : List (Bank × RegNum)} {s t : State}

/-- An instruction that does nothing when its condition fails (30_encoding.md R206). -/
theorem Frame.whenPassed {c : Cond} {k : State → Result} (h : Holds (Frame e l s) (k s)) :
    Holds (Frame e l s) (s.whenPassed c k) := .whenPassed (fun _ => h) (fun _ => (Frame.refl e l s).advance)

theorem Frame.passedNext {c : Cond} {f : State → State} (h : Frame e l s (f s)) :
    Holds (Frame e l s) (s.whenPassed c fun t => .next (f t)) := Frame.whenPassed (k := fun t => .next (f t)) (.next h)

theorem dataProcessing_frame {op : DpOp} {w : Bool} {rd : RegNum} {a b : Word} {sc : Bool}
    (hb : t.cpu.bank = s.cpu.bank) (h : Frame (.computes w rd) (own s [rd]) s t) :
    Holds (Frame (.computes w rd) (own s [rd]) s) (dataProcessing op w rd a b sc t) :=
  h.dataProcessing (fun _ => .inr (hb ▸ mem_own (by simp))) id fun hw _ hr => by simp [Effects.computes, hw, hr]

theorem dpShiftRegister_frame {op : DpOp} {w : Bool} {rn rd rs : RegNum} {k : ShiftKind} {rm : RegNum} :
    Holds (Frame (.computes w rd) (own s [rd]) s) (dpShiftRegister op w rn rd rs k rm s) :=
  .unpredictable (.unpredictable (dataProcessing_frame rfl (Frame.refl _ _ s).internal))

/-- The four tests write the flags only (40_arm_dataproc.md R276). -/
theorem dataProcessing_test_frame {op : DpOp} {w : Bool} {rd : RegNum} {a b : Word} {sc : Bool} (h : Frame .compares l s t)
    (hop : dpWritesRd op = false) : Holds (Frame .compares l s) (dataProcessing op w rd a b sc t) :=
  h.dataProcessing (by simp [hop]) (fun _ => rfl) (by simp [hop])

theorem dpShiftImmediate_test_frame {op : DpOp} {w : Bool} {rn rd : RegNum} {n : BitVec 5} {k : ShiftKind} {rm : RegNum}
    (hop : dpWritesRd op = false) : Holds (Frame .compares l s) (dpShiftImmediate op w rn rd n k rm s) :=
  dataProcessing_test_frame (Frame.refl _ _ s) hop

theorem dpImmediate_test_frame {op : DpOp} {w : Bool} {rn rd : RegNum} {r : BitVec 4} {v : BitVec 8}
    (hop : dpWritesRd op = false) : Holds (Frame .compares l s) (dpImmediate op w rn rd r v s) :=
  dataProcessing_test_frame (Frame.refl _ _ s) hop

theorem dpShiftRegister_test_frame {op : DpOp} {w : Bool} {rn rd rs : RegNum} {k : ShiftKind} {rm : RegNum}
    (hop : dpWritesRd op = false) : Holds (Frame .compares l s) (dpShiftRegister op w rn rd rs k rm s) :=
  .unpredictable (.unpredictable (dataProcessing_test_frame (Frame.refl _ _ s).internal hop))

theorem multiplyShort_frame {w : Bool} {rd rs rm : RegNum} {acc : Option RegNum} :
    Holds (Frame (.flagsWhen w) (own s [rd]) s) (multiplyShort w rd rs rm acc s) :=
  (Frame.refl _ _ s).multiplyShort (.inr (mem_own (List.mem_singleton_self _))) id

theorem multiplyLong_frame {signed acc w : Bool} {rdHi rdLo rs rm : RegNum} :
    Holds (Frame (.flagsWhen w) (own s [rdLo, rdHi]) s) (multiplyLong signed acc w rdHi rdLo rs rm s) :=
  (Frame.refl _ _ s).multiplyLong (.inr (mem_own (by simp))) (.inr (mem_own (by simp))) id

theorem writePsr_frame {r : Bool} {mask : BitVec 4} {v : Word} :
    Holds (Frame (.writesPsr r mask) l s) (writePsr r mask v s) := by
  refine (Frame.refl _ _ s).writePsr ?flags ?mode (fun hr _ => hr)
  case flags => intro hr hm; simp [Effects.writesPsr, hr, hm]
  case mode => intro hr hm _; simp [Effects.writesPsr, hr, hm]

theorem readPsr_frame {r : Bool} {rd : RegNum} : Holds (Frame .none (own s [rd]) s) (readPsr r rd s) :=
  (Frame.refl _ _ s).readPsr (.inr (mem_own (List.mem_singleton_self _)))

theorem loadTransfer_frame {k : LoadKind} {x : Indexing} {rn rd : RegNum} {offset : Word} :
    Holds (Frame .none (own s (rd :: baseIf x.writeBack rn)) s) (loadTransfer k x rn rd offset s) :=
  (Frame.refl _ _ s).loadTransfer (.inr (mem_own List.mem_cons_self))
    fun hw => .inr (mem_own (List.mem_cons_of_mem _ (mem_baseIf rn hw)))

theorem storeTransfer_frame {w : Width} {x : Indexing} {rn rd : RegNum} {offset : Word} :
    Holds (Frame .none (own s (baseIf x.writeBack rn)) s) (storeTransfer w x rn rd offset s) :=
  (Frame.refl _ _ s).storeTransfer fun hw => .inr (mem_own (mem_baseIf rn hw))

theorem swap_frame {k : LoadKind} {w : Width} {rn rd rm : RegNum} :
    Holds (Frame .none (own s [rd]) s) (swap k w rn rd rm s) := (Frame.refl _ _ s).swap (.inr (mem_own (List.mem_singleton_self _)))

theorem storeMultiple_frame {b : Bank} {plan : BlockPlan} {w : Bool} {rn : RegNum} :
    Holds (Frame .none (own s (baseIf w rn)) s) (s.storeMultiple b plan w rn) :=
  (Frame.refl _ _ s).storeMultiple fun hw => .inr (mem_own (mem_baseIf rn hw))

/-- The destinations of a load-multiple into a view: the base, when it is written back, and the listed registers
(43_arm_loadstore.md R367, R370). -/
def loadedInto (s : State) (b : Bank) (w : Bool) (rn : RegNum) (list : BitVec 16) : List (Bank × RegNum) :=
  own s (baseIf w rn) ++ (regList list).map (fun r => (b, r))

theorem own_base_regList (w : Bool) (rn : RegNum) (list : BitVec 16) :
    own s (baseIf w rn ++ regList list) = loadedInto s s.cpu.bank w rn list := List.map_append

theorem loadMultiple_frame {b : Bank} {p u w : Bool} {rn : RegNum} {base : Word} {list : BitVec 16} {restore : Bool}
    (he : restore = true → e.flags = true ∧ e.thumb = true ∧ e.mode = true) :
    Holds (Frame e (loadedInto s b w rn list) s) (s.loadMultiple b (blockPlan p u base list) w rn restore) := by
  refine (Frame.refl _ _ s).loadMultiple (fun hw => .inr ?base) (fun r hr => ?listed) he
  case base => exact List.mem_append_left _ (mem_own (mem_baseIf rn hw))
  case listed => exact (mem_blockRegs hr).imp_right fun h => List.mem_append_right _ (List.mem_map_of_mem h)

theorem stm_frame {p u w : Bool} {rn : RegNum} {list : BitVec 16} :
    Holds (Frame .none (own s (baseIf w rn)) s) (blockTransfer false p u w rn list s) :=
  .unpredictable storeMultiple_frame

theorem ldm_frame {p u w : Bool} {rn : RegNum} {list : BitVec 16} :
    Holds (Frame e (own s (baseIf w rn ++ regList list)) s) (blockTransfer true p u w rn list s) :=
  own_base_regList w rn list ▸ .unpredictable (loadMultiple_frame nofun)

theorem stmS_frame {p u w : Bool} {rn : RegNum} {list : BitVec 16} :
    Holds (Frame .none (own s (baseIf w rn)) s) (blockTransferS false p u w rn list s) :=
  .unpredictable (.ite (fun _ => stm_frame) (fun _ => .unpredictable (.unpredictable storeMultiple_frame)))

/-- LDM with `S = 1`: the current view in User and System mode and where R15 is loaded, and the User view otherwise
(43_arm_loadstore.md R370). -/
theorem ldmS_frame {p u w : Bool} {rn : RegNum} {list : BitVec 16} :
    Holds (Frame (.returns (listHasPc list)) (loadedInto s (s.loadBank list) w rn list) s)
      (blockTransferS true p u w rn list s) := by
  refine .unpredictable (.ite (fun hn => ?unprivileged) (fun _ => .unpredictable ?privileged))
  case unprivileged =>
    rw [s.loadBank_of_noSpsr list hn, ← own_base_regList]
    exact ldm_frame
  case privileged =>
    unfold blockTransferPrivileged State.loadBank
    cases listHasPc list with
    | true => exact loadMultiple_frame fun _ => ⟨rfl, rfl, rfl⟩
    | false => exact .unpredictable (loadMultiple_frame nofun)

theorem takeSwi_frame : Frame .traps [(.svc, 14#4)] s s.takeSwi :=
  (Frame.refl _ _ s).enterException ⟨rfl, rfl, rfl⟩ (List.mem_singleton_self _)

theorem takeUndefined_frame : Frame .traps [(.und, 14#4)] s s.takeUndefined :=
  (Frame.refl _ _ s).internal.enterException ⟨rfl, rfl, rfl⟩ (List.mem_singleton_self _)

theorem finish_frame {rd : RegNum} {v : Word} : Frame e (own s [rd]) s (s.finish rd v) :=
  (Frame.refl _ _ s).finish (.inr (mem_own (List.mem_singleton_self _)))

theorem thumbAlu_frame {op : DpOp} {rd : LowReg} {a b : Word} {sc : Bool} (hb : t.cpu.bank = s.cpu.bank)
    (h : Frame .compares (own s [lowReg rd]) s t) :
    Holds (Frame .compares (own s [lowReg rd]) s) (thumbAlu op rd a b sc t) :=
  h.thumbAlu (fun _ => hb ▸ mem_own (by simp)) rfl

theorem thumbAlu_test_frame {op : DpOp} {rd : LowReg} {a b : Word} {sc : Bool} (hop : dpWritesRd op = false) :
    Holds (Frame .compares l s) (thumbAlu op rd a b sc s) := (Frame.refl _ _ s).thumbAlu (by simp [hop]) rfl

theorem thumbLoad_frame {k : LoadKind} {rd : LowReg} {a : Word} :
    Holds (Frame e (own s [lowReg rd]) s) (thumbLoad k rd a s) :=
  .next ((Frame.refl _ _ s).loadReg (.inr (mem_own (List.mem_singleton_self _))) nofun)

end

/-! ## All instructions -/

/-- What every instruction leaves of the CPU: the registers but its destinations and the status bits but its effects. -/
theorem exec_frame (i : Instr) (s : State) : Holds (Frame i.effects (i.destinations s) s) (exec i s) := by
  have h0 {e : Effects} {l : List (Bank × RegNum)} : Frame e l s s := Frame.refl e l s
  cases i
  case andShi | eorShi | subShi | rsbShi | addShi | adcShi | sbcShi | rscShi | orrShi | movShi | bicShi | mvnShi |
      andImm | eorImm | subImm | rsbImm | addImm | adcImm | sbcImm | rscImm | orrImm | movImm | bicImm | mvnImm =>
    exact Frame.whenPassed (dataProcessing_frame rfl h0)
  case andShr | eorShr | subShr | rsbShr | addShr | adcShr | sbcShr | rscShr | orrShr | movShr | bicShr | mvnShr =>
    exact Frame.whenPassed dpShiftRegister_frame
  case tstShi | teqShi | cmpShi | cmnShi => exact Frame.whenPassed (dpShiftImmediate_test_frame rfl)
  case tstImm | teqImm | cmpImm | cmnImm => exact Frame.whenPassed (dpImmediate_test_frame rfl)
  case tstShr | teqShr | cmpShr | cmnShr => exact Frame.whenPassed (dpShiftRegister_test_frame rfl)
  case mul | mla => exact Frame.whenPassed multiplyShort_frame
  case umull | umlal | smull | smlal => exact Frame.whenPassed multiplyLong_frame
  case mrs => exact Frame.whenPassed readPsr_frame
  case msrReg => exact Frame.whenPassed (.unpredictable writePsr_frame)
  case msrImm => exact Frame.whenPassed writePsr_frame
  case ldrImmPre | ldrImmPost | ldrtImm | ldrbImmPre | ldrbImmPost | ldrbtImm =>
    exact Frame.whenPassed loadTransfer_frame
  case ldrRegPre | ldrRegPost | ldrtReg | ldrbRegPre | ldrbRegPost | ldrbtReg | ldrhImm | ldrsbImm | ldrshImm =>
    exact Frame.whenPassed (.unpredictable loadTransfer_frame)
  case ldrhReg | ldrsbReg | ldrshReg => exact Frame.whenPassed (.unpredictable (.unpredictable loadTransfer_frame))
  case strImmPre | strImmPost | strtImm | strbImmPre | strbImmPost | strbtImm =>
    exact Frame.whenPassed storeTransfer_frame
  case strRegPre | strRegPost | strtReg | strbRegPre | strbRegPost | strbtReg | strhImm =>
    exact Frame.whenPassed (.unpredictable storeTransfer_frame)
  case strhReg => exact Frame.whenPassed (.unpredictable (.unpredictable storeTransfer_frame))
  case swp | swpb => exact Frame.whenPassed swap_frame
  case stm => exact Frame.whenPassed stm_frame
  case ldm => exact Frame.whenPassed ldm_frame
  case stmS => exact Frame.whenPassed stmS_frame
  case ldmS => exact Frame.whenPassed ldmS_frame
  case b | tBcond0xxx | tBcond10xx | tBcond110x => exact Frame.passedNext h0.branch
  case bl =>
    dsimp only [exec, execBl]
    exact Frame.passedNext (h0.setReg (.inr (mem_own (List.mem_singleton_self _)))).branch
  case bx => exact Frame.passedNext (h0.exchange rfl)
  case swi => exact Frame.passedNext takeSwi_frame
  case ldcStc | cdp | mrcMcr | undefMul00001 | undefMul00011 | undefSwpX1 | undefSwp10 | undefLdrdStrd | undefMiscBx00 |
      undefMiscBx10 | undefMiscBx11 | undefMisc01xx | undefMisc001x | undefMisc1xx0 | undefMovStatus | undefMedia =>
    exact Frame.passedNext takeUndefined_frame
  case tLslImm | tLsrImm | tAsrImm | tAddReg | tSubReg | tAddImm3 | tSubImm3 | tMovImm8 | tAddImm8 | tSubImm8 | tAnd |
      tEor | tAdc | tSbc | tNeg | tOrr | tBic | tMvn =>
    exact thumbAlu_frame rfl h0
  case tLslReg | tLsrReg | tAsrReg | tRorReg => exact thumbAlu_frame rfl h0.internal
  case tCmpImm8 | tTst | tCmpReg | tCmn => exact thumbAlu_test_frame rfl
  case tMul => exact h0.multiply (.inr (mem_own (List.mem_singleton_self _))) id
  case tAddHi | tMovHi => exact .unpredictable (.next finish_frame)
  case tCmpHi => exact .unpredictable (.next (h0.setNzcv rfl).advance)
  case tBx => exact .unpredictable (.next (h0.exchange rfl))
  case tLdrPc | tLdrReg | tLdrbReg | tLdsbReg | tLdrhReg | tLdshReg | tLdrImm | tLdrbImm | tLdrhImm | tLdrSp =>
    exact thumbLoad_frame
  case tStrReg | tStrbReg | tStrhReg | tStrImm | tStrbImm | tStrhImm | tStrSp => exact h0.storeReg nofun
  case tAddPc | tAddSp | tAddSpImm | tBlPrefix => exact .next finish_frame
  case tPush | tStmia => exact storeMultiple_frame
  case tPop | tLdmia => exact loadMultiple_frame nofun
  case tSwi => exact .next takeSwi_frame
  case tB => exact .next h0.branch
  case tBlSuffix => exact .next (h0.setReg (.inr (mem_own (List.mem_singleton_self _)))).branch
  case tUndef10110001 | tUndef1011001x | tUndef1011011x | tUndef101110xx | tUndef1011111x | tUndef11011110 |
      tUndef11101 =>
    exact .next takeUndefined_frame

/-- Settles O41: the registers' part of the frame of every instruction. -/
theorem registerFrame : Obligations.RegisterFrame := fun i s t h => (exec_frame i s t h).regs

/-- Settles O42: the status registers' part of the frame of every instruction. -/
theorem statusFrame : Obligations.StatusFrame := fun i s t h =>
  have f := exec_frame i s t h
  ⟨f.flags, f.thumb, f.mode, f.spsr⟩

end Sys2Proof.Machine
end

section
/-! PROOFS. O48 and O49 (spec/10_state.md R51, R61, R75, R76): what a step does, case by case, and what each case leaves. -/

namespace Sys2Proof.Machine

open Sys2Proof

/-! ## What a step can do (61_timers_dma.md R603) -/

/-- The first half of a step: nothing while a dispatch is left over, an idle advance while halted, and otherwise one
instruction with its cost. -/
theorem State.runCpu_cases {s t : State} (h : s.runCpu = .next t) :
    (s.sys.midDispatch = true ∧ t = s) ∨
    (s.sys.midDispatch = false ∧ s.sys.halted = true ∧ t = s.idle) ∨
    (s.sys.midDispatch = false ∧ s.sys.halted = false ∧ ∃ u, s.executeOne = .next u ∧ t = u.commit) := by
  unfold State.runCpu at h
  split at h
  next hm => cases h; exact .inl ⟨hm, rfl⟩
  next hm =>
    replace hm := Bool.eq_false_iff.2 hm
    split at h
    next hh => cases h; exact .inr (.inl ⟨hm, hh, rfl⟩)
    next hh =>
      split at h
      next u hu => cases h; exact .inr (.inr ⟨hm, Bool.eq_false_iff.2 hh, u, hu, rfl⟩)
      next => cases h
      next => cases h

/-- The second half of a step: the dispatch of the due events; if it is handed over that is all, otherwise the end of a
halt and the IRQ check follow. -/
theorem State.runEvents_cases {s t : State} (h : s.runEvents = .next t) :
    ∃ y, s.sys.dispatchDue Config.dispatchBudget = .ok y ∧
      ((y.dispatchLeft = true ∧ t = s.withSys { y with midDispatch := true }) ∨
        (y.dispatchLeft = false ∧ t = (s.withSys { y with midDispatch := false }).wakeUp.checkIrq)) := by
  unfold State.runEvents at h
  cases hy : s.sys.dispatchDue Config.dispatchBudget with
  | error f => rw [hy] at h; cases h
  | ok y =>
    refine ⟨y, rfl, ?_⟩
    rw [hy, orFault_ok] at h
    split at h
    next hl => cases h; exact .inl ⟨hl, rfl⟩
    next hl => cases h; exact .inr ⟨Bool.eq_false_iff.2 hl, rfl⟩

/-- A step that goes on is its two halves. -/
theorem step_cases {s t : State} (h : step s = .next t) :
    ∃ u, s.rollFrame.runCpu = .next u ∧ u.runEvents = .next t := by
  unfold step State.machineStep at h
  split at h
  next u hu => exact ⟨u, hu, h⟩
  next => cases h
  next => cases h

/-- The end of a halt changes one flag. -/
theorem State.wakeUp_cases (s : State) : s.wakeUp = s ∨ s.wakeUp = s.withSys { s.sys with halted := false } := by
  unfold State.wakeUp
  split
  · exact .inr rfl
  · exact .inl rfl

/-- The IRQ check enters the exception or does nothing (60_exceptions.md R561). -/
theorem State.checkIrq_cases (s : State) : s.checkIrq = s ∨ s.checkIrq = s.takeIrq.commit := by
  unfold State.checkIrq
  split
  · exact .inr rfl
  · exact .inl rfl

/-! ## Aligned program counters (10_state.md R51, R56) -/

/-- The alignment takes the address down to a multiple of the instruction width. -/
theorem alignPc_toNat (thumb : Bool) (a : Word) :
    (alignPc thumb a).toNat = a.toNat / (widthOf thumb).toNat * (widthOf thumb).toNat := by
  have mask (n : Nat) : (a &&& BitVec.allOnes 32 <<< n).toNat = a.toNat / 2 ^ n * 2 ^ n := by
    have := Nat.div_mul_le_self a.toNat (2 ^ n)
    rw [← BitVec.shiftLeft_ushiftRight, BitVec.toNat_shiftLeft, BitVec.toNat_ushiftRight, Nat.shiftLeft_eq,
      Nat.shiftRight_eq_div_pow, Nat.mod_eq_of_lt (by omega)]
  cases thumb
  · exact mask 2
  · exact mask 1

theorem alignPc_eq_self_iff (thumb : Bool) (a : Word) :
    alignPc thumb a = a ↔ a.toNat % (widthOf thumb).toNat = 0 := by
  rw [← BitVec.toNat_inj, alignPc_toNat]
  have := Nat.div_add_mod' a.toNat (widthOf thumb).toNat
  omega

theorem alignPc_alignPc (thumb : Bool) (a : Word) : alignPc thumb (alignPc thumb a) = alignPc thumb a := by
  rw [alignPc_eq_self_iff, alignPc_toNat]
  exact Nat.mul_mod_left _ _

theorem alignPc_add_widthOf {thumb : Bool} {a : Word} (h : alignPc thumb a = a) :
    alignPc thumb (a + widthOf thumb) = a + widthOf thumb := by
  rw [alignPc_eq_self_iff] at h ⊢
  cases thumb <;> simp [widthOf, BitVec.toNat_add] at h ⊢ <;> omega

/-! ## Legal states (10_state.md R51, R61) -/

/-- The answer, if it is a next state, is a legal one. -/
abbrev HoldsLegal (r : Result) : Prop := Holds (fun t => t.cpu.legal) r

section
variable {s t : State}

theorem Cpu.legal.mode (h : s.cpu.legal) : modeValid s.cpu.cpsr.m = true := h.1

/-- An operation that keeps the CPSR and the program counter. -/
theorem Cpu.legal.same (h : s.cpu.legal) (hc : t.cpu.cpsr = s.cpu.cpsr := by rfl) (hp : t.cpu.pc = s.cpu.pc := by rfl) :
    t.cpu.legal := by
  unfold Cpu.legal
  rw [hc, hp]
  exact h

/-- A new CPSR with the old T and a valid mode. -/
theorem Cpu.legal.setCpsr {p : Psr} (h : s.cpu.legal) (hm : modeValid p.m = true) (ht : p.t = s.cpu.cpsr.t) :
    (s.setCpsr p).cpu.legal := ⟨hm, (ht ▸ h.2 : alignPc p.t s.cpu.pc = s.cpu.pc)⟩

theorem Cpu.legal.setReg {r : RegNum} {v : Word} (h : s.cpu.legal) : (s.setReg r v).cpu.legal := h.same (by simp) (by simp)

theorem Cpu.legal.internal {n : Nat} (h : s.cpu.legal) : (s.internal n).cpu.legal := h.same

theorem Cpu.legal.withSys {y : Sys} (h : s.cpu.legal) : (s.withSys y).cpu.legal := h.same

theorem Cpu.legal.writeBack {wb : Bool} {rn : RegNum} {v : Word} (h : s.cpu.legal) : (s.writeBack wb rn v).cpu.legal :=
  h.same (by simp) (by simp)

theorem Cpu.legal.advance (h : s.cpu.legal) : s.advance.cpu.legal := ⟨h.1, alignPc_add_widthOf h.2⟩

/-- A branch needs a valid mode only: it aligns its target (10_state.md R56). -/
theorem legal_branch (hm : modeValid s.cpu.cpsr.m = true) (a : Word) : (s.branch a).cpu.legal :=
  ⟨hm, alignPc_alignPc _ _⟩

theorem Cpu.legal.branch {a : Word} (h : s.cpu.legal) : (s.branch a).cpu.legal := legal_branch h.mode a

theorem Cpu.legal.ite {c : Prop} [Decidable c] (h : s.cpu.legal) (h' : t.cpu.legal) : (if c then s else t).cpu.legal := by
  split
  · exact h
  · exact h'

theorem Cpu.legal.finish {rd : RegNum} {v : Word} (h : s.cpu.legal) : (s.finish rd v).cpu.legal :=
  h.branch.ite h.setReg.advance

theorem Cpu.legal.exchange {a : Word} (h : s.cpu.legal) : (s.exchange a).cpu.legal :=
  ⟨h.mode, alignPc_alignPc _ _⟩

/-- An exception enters one of the seven modes (60_exceptions.md R550, R551). -/
theorem enterException_legal (s : State) (e : Exception) (ret : Word) : (s.enterException e ret).cpu.legal := by
  unfold State.enterException
  refine legal_branch ?_ _
  simp only [Cpu.setCurrentSpsr_cpsr, Cpu.setBankReg_cpsr]
  cases e <;> rfl

/-- The return from an exception restores a valid mode or keeps the mode (60_exceptions.md R557). -/
theorem restoreCpsr_modeValid (h : s.restoreCpsr = .ok t) (hm : modeValid s.cpu.cpsr.m = true) :
    modeValid t.cpu.cpsr.m = true := by
  unfold State.restoreCpsr at h
  split at h <;> split at h <;> cases h
  · assumption
  · exact hm

theorem Cpu.legal.restoreBranch {a : Word} (h : s.cpu.legal) :
    HoldsLegal (orFault s.restoreCpsr fun u => .next (u.branch a)) :=
  .orFault fun _ hu => .next (legal_branch (restoreCpsr_modeValid hu h.mode) a)

theorem Cpu.legal.loadReg {k : LoadKind} {a : Word} {wb : Bool} {rn : RegNum} {moved : Word} {rd : RegNum}
    (h : s.cpu.legal) : (s.loadReg k a wb rn moved rd).cpu.legal :=
  (h.withSys (y := (s.loadValue k a).2.sys)).writeBack.internal.finish

theorem Cpu.legal.storeReg {w : Width} {a v : Word} {wb : Bool} {rn : RegNum} {moved : Word} (h : s.cpu.legal) :
    HoldsLegal (s.storeReg w a v wb rn moved) := .orFault fun y _ => .next (h.withSys (y := y)).writeBack.advance

theorem Cpu.legal.storeBlock {b : Bank} {kind : Access} {a : Word} {rs : List RegNum} (h : s.cpu.legal)
    (e : s.storeBlock b kind a rs = .ok t) : t.cpu.legal := State.storeBlock_cpu e ▸ h

theorem Cpu.legal.storeMultiple {b : Bank} {plan : BlockPlan} {wb : Bool} {rn : RegNum} (h : s.cpu.legal) :
    HoldsLegal (s.storeMultiple b plan wb rn) := by
  unfold State.storeMultiple
  split
  · exact .next h.advance
  · exact .orFault fun _ e => .orFault fun _ e' => .next ((h.storeBlock e).writeBack.storeBlock e').advance

theorem Cpu.legal.writeLoaded {b : Bank} {rs : List (RegNum × Word)} (h : s.cpu.legal) :
    (s.writeLoaded b rs).cpu.legal := by
  obtain ⟨-, hc, -, hp, -, -⟩ := State.writeLoaded_rest b rs s
  exact h.same hc hp

theorem Cpu.legal.loadMultiple {b : Bank} {plan : BlockPlan} {wb : Bool} {rn : RegNum} {restore : Bool}
    (h : s.cpu.legal) : HoldsLegal (s.loadMultiple b plan wb rn restore) := by
  have based := (h.withSys (y := (s.sys.loadBlock .nonseq plan.start plan.regs).2)).writeBack
    (wb := wb) (rn := rn) (v := plan.moved)
  have loaded := (based.writeLoaded (b := b) (rs := (s.sys.loadBlock .nonseq plan.start plan.regs).1)).internal (n := 1)
  unfold State.loadMultiple
  dsimp only
  split
  · exact .next loaded.advance
  · exact .ite (fun _ => loaded.restoreBranch) (fun _ => .next loaded.branch)

/-! ### The families -/

theorem Cpu.legal.whenPassed {c : Cond} {k : State → Result} (h : s.cpu.legal) (hk : HoldsLegal (k s)) :
    HoldsLegal (s.whenPassed c k) := .whenPassed (fun _ => hk) (fun _ => h.advance)

theorem Cpu.legal.passedNext {c : Cond} {f : State → State} (h : s.cpu.legal) (hf : (f s).cpu.legal) :
    HoldsLegal (s.whenPassed c fun t => .next (f t)) := Cpu.legal.whenPassed (k := fun t => .next (f t)) h (.next hf)

/-- New flags N and Z. -/
theorem Cpu.legal.setNz {n z : Bool} (h : s.cpu.legal) : (s.setCpsr { s.cpu.cpsr with n := n, z := z }).cpu.legal :=
  h.setCpsr h.mode rfl

/-- New flags N, Z, C and V. -/
theorem Cpu.legal.setNzcv {r : AluResult} (h : s.cpu.legal) : (s.setCpsr (s.cpu.cpsr.setNzcv r)).cpu.legal :=
  h.setCpsr h.mode rfl

theorem Cpu.legal.dataProcessing {op : DpOp} {w : Bool} {rd : RegNum} {a b : Word} {sc : Bool} (h : s.cpu.legal) :
    HoldsLegal (dataProcessing op w rd a b sc s) := by
  unfold Sys2Proof.Machine.dataProcessing
  have written (v : Word) : (if dpWritesRd op = true then s.setReg rd v else s).cpu.legal := h.setReg.ite h
  exact .ite (fun _ => .ite (fun _ => h.restoreBranch) (fun _ => .next h.branch))
    (fun _ => .next ((written _).setNzcv.ite (written _)).advance)

theorem Cpu.legal.dpShiftImmediate {op : DpOp} {w : Bool} {rn rd : RegNum} {n : BitVec 5} {k : ShiftKind} {rm : RegNum}
    (h : s.cpu.legal) : HoldsLegal (dpShiftImmediate op w rn rd n k rm s) := h.dataProcessing

theorem Cpu.legal.dpImmediate {op : DpOp} {w : Bool} {rn rd : RegNum} {r : BitVec 4} {v : BitVec 8}
    (h : s.cpu.legal) : HoldsLegal (dpImmediate op w rn rd r v s) := h.dataProcessing

theorem Cpu.legal.dpShiftRegister {op : DpOp} {w : Bool} {rn rd rs : RegNum} {k : ShiftKind} {rm : RegNum}
    (h : s.cpu.legal) : HoldsLegal (dpShiftRegister op w rn rd rs k rm s) :=
  .unpredictable (.unpredictable h.internal.dataProcessing)

theorem Cpu.legal.multiply {w : Bool} {rd rs rm : RegNum} {addend : Word} {extra : Nat} (h : s.cpu.legal) :
    HoldsLegal (multiply w rd rs rm addend extra s) :=
  .next (h.internal.setNz.ite h.internal).finish

theorem Cpu.legal.multiplyShort {w : Bool} {rd rs rm : RegNum} {acc : Option RegNum} (h : s.cpu.legal) :
    HoldsLegal (multiplyShort w rd rs rm acc s) := by
  refine .unpredictable (.unpredictable ?_)
  cases acc <;> exact h.multiply

theorem Cpu.legal.finishLong {rdHi rdLo : RegNum} {hi lo : Word} (h : s.cpu.legal) :
    (s.finishLong rdHi rdLo hi lo).cpu.legal :=
  h.setReg.setReg.branch.ite (h.setReg.setReg.branch.ite h.setReg.setReg.advance)

theorem Cpu.legal.multiplyLong {signed acc w : Bool} {rdHi rdLo rs rm : RegNum} (h : s.cpu.legal) :
    HoldsLegal (multiplyLong signed acc w rdHi rdLo rs rm s) :=
  .unpredictable (.unpredictable (.unpredictable (.next (h.internal.setNz.ite h.internal).finishLong)))

/-- MSR writes a valid mode or none, and keeps T (42_arm_psr_branch.md R331). -/
theorem Cpu.legal.writePsr {r : Bool} {mask : BitVec 4} {v : Word} (h : s.cpu.legal) :
    HoldsLegal (writePsr r mask v s) := by
  unfold Sys2Proof.Machine.writePsr
  refine .ite (fun _ => ?spsr) (fun _ => ?cpsr)
  case spsr =>
    unfold writeSpsr
    split
    · exact .unpredictable (.next h.advance)
    · exact .next (h.same (t := { s with cpu := s.cpu.setCurrentSpsr _ }) (by simp) (by simp)).advance
  case cpsr =>
    unfold writeCpsr
    obtain ⟨ht, hm, -, -⟩ := maskedFlags_rest mask v s.cpu.cpsr
    refine .ite (fun _ => .ite (fun _ => .fault _ _) (fun hv => .unpredictable (.next ?_))) (fun _ => .next ?_)
    · exact Cpu.legal.advance (h.setCpsr (by simpa [Psr.withControl] using hv) rfl)
    · exact Cpu.legal.advance (h.setCpsr (by rw [hm]; exact h.mode) ht)

theorem Cpu.legal.readPsr {r : Bool} {rd : RegNum} (h : s.cpu.legal) : HoldsLegal (readPsr r rd s) := by
  refine .unpredictable (.ite (fun _ => ?_) (fun _ => .next h.finish))
  split
  · exact .next h.finish
  · exact .unpredictable (.next h.finish)

theorem Cpu.legal.loadTransfer {k : LoadKind} {x : Indexing} {rn rd : RegNum} {offset : Word} (h : s.cpu.legal) :
    HoldsLegal (loadTransfer k x rn rd offset s) := .unpredictable (.unpredictable (.unpredictableCase (.next h.loadReg)))

theorem Cpu.legal.storeTransfer {w : Width} {x : Indexing} {rn rd : RegNum} {offset : Word} (h : s.cpu.legal) :
    HoldsLegal (storeTransfer w x rn rd offset s) := .unpredictable (.unpredictableCase h.storeReg)

theorem Cpu.legal.swap {k : LoadKind} {w : Width} {rn rd rm : RegNum} (h : s.cpu.legal) :
    HoldsLegal (swap k w rn rd rm s) :=
  .unpredictable (.unpredictable (.orFault fun y _ => .next (h.withSys (y := y)).internal.finish))

theorem Cpu.legal.blockTransfer {load p u w : Bool} {rn : RegNum} {list : BitVec 16} (h : s.cpu.legal) :
    HoldsLegal (blockTransfer load p u w rn list s) :=
  .unpredictable (.ite (fun _ => h.loadMultiple) (fun _ => h.storeMultiple))

theorem Cpu.legal.blockTransferS {load p u w : Bool} {rn : RegNum} {list : BitVec 16} (h : s.cpu.legal) :
    HoldsLegal (blockTransferS load p u w rn list s) :=
  .unpredictable (.ite (fun _ => h.blockTransfer) (fun _ => .unpredictable (.ite (fun _ => h.loadMultiple)
    (fun _ => .unpredictable (.ite (fun _ => h.loadMultiple) (fun _ => h.storeMultiple))))))

theorem Cpu.legal.thumbAlu {op : DpOp} {rd : LowReg} {a b : Word} {sc : Bool} (h : s.cpu.legal) :
    HoldsLegal (thumbAlu op rd a b sc s) := by
  have written (v : Word) : (if dpWritesRd op = true then s.setReg (lowReg rd) v else s).cpu.legal := h.setReg.ite h
  exact .next (written _).setNzcv.advance

end

/-- Every instruction that goes on from a legal state reaches one. -/
theorem exec_legal (i : Instr) {s : State} (h : s.cpu.legal) : HoldsLegal (exec i s) := by
  cases i
  case andShi | eorShi | subShi | rsbShi | addShi | adcShi | sbcShi | rscShi | tstShi | teqShi | cmpShi | cmnShi | orrShi |
      movShi | bicShi | mvnShi =>
    exact h.whenPassed h.dpShiftImmediate
  case andImm | eorImm | subImm | rsbImm | addImm | adcImm | sbcImm | rscImm | tstImm | teqImm | cmpImm | cmnImm | orrImm |
      movImm | bicImm | mvnImm =>
    exact h.whenPassed h.dpImmediate
  case andShr | eorShr | subShr | rsbShr | addShr | adcShr | sbcShr | rscShr | tstShr | teqShr | cmpShr | cmnShr | orrShr |
      movShr | bicShr | mvnShr =>
    exact h.whenPassed h.dpShiftRegister
  case mul | mla => exact h.whenPassed h.multiplyShort
  case umull | umlal | smull | smlal => exact h.whenPassed h.multiplyLong
  case mrs => exact h.whenPassed h.readPsr
  case msrReg => exact h.whenPassed (.unpredictable h.writePsr)
  case msrImm => exact h.whenPassed h.writePsr
  case ldrImmPre | ldrImmPost | ldrtImm | ldrbImmPre | ldrbImmPost | ldrbtImm => exact h.whenPassed h.loadTransfer
  case ldrRegPre | ldrRegPost | ldrtReg | ldrbRegPre | ldrbRegPost | ldrbtReg | ldrhImm | ldrsbImm | ldrshImm =>
    exact h.whenPassed (.unpredictable h.loadTransfer)
  case ldrhReg | ldrsbReg | ldrshReg => exact h.whenPassed (.unpredictable (.unpredictable h.loadTransfer))
  case strImmPre | strImmPost | strtImm | strbImmPre | strbImmPost | strbtImm => exact h.whenPassed h.storeTransfer
  case strRegPre | strRegPost | strtReg | strbRegPre | strbRegPost | strbtReg | strhImm =>
    exact h.whenPassed (.unpredictable h.storeTransfer)
  case strhReg => exact h.whenPassed (.unpredictable (.unpredictable h.storeTransfer))
  case swp | swpb => exact h.whenPassed h.swap
  case stm | ldm => exact h.whenPassed h.blockTransfer
  case stmS | ldmS => exact h.whenPassed h.blockTransferS
  case b | tBcond0xxx | tBcond10xx | tBcond110x => exact h.passedNext h.branch
  case bl =>
    dsimp only [exec, execBl]
    exact h.passedNext h.setReg.branch
  case bx => exact h.passedNext h.exchange
  case swi => exact h.passedNext (enterException_legal s _ _)
  case ldcStc | cdp | mrcMcr | undefMul00001 | undefMul00011 | undefSwpX1 | undefSwp10 | undefLdrdStrd | undefMiscBx00 |
      undefMiscBx10 | undefMiscBx11 | undefMisc01xx | undefMisc001x | undefMisc1xx0 | undefMovStatus | undefMedia =>
    exact h.passedNext (enterException_legal (s.internal 1) _ _)
  case tLslImm | tLsrImm | tAsrImm | tAddReg | tSubReg | tAddImm3 | tSubImm3 | tMovImm8 | tCmpImm8 | tAddImm8 | tSubImm8 |
      tAnd | tEor | tAdc | tSbc | tTst | tNeg | tCmpReg | tCmn | tOrr | tBic | tMvn =>
    exact h.thumbAlu
  case tLslReg | tLsrReg | tAsrReg | tRorReg => exact h.internal.thumbAlu
  case tMul => exact h.multiply
  case tAddHi | tMovHi => exact .unpredictable (.next h.finish)
  case tCmpHi => exact .unpredictable (.next h.setNzcv.advance)
  case tBx => exact .unpredictable (.next h.exchange)
  case tLdrPc | tLdrReg | tLdrbReg | tLdsbReg | tLdrhReg | tLdshReg | tLdrImm | tLdrbImm | tLdrhImm | tLdrSp =>
    exact .next h.loadReg
  case tStrReg | tStrbReg | tStrhReg | tStrImm | tStrbImm | tStrhImm | tStrSp => exact h.storeReg
  case tAddPc | tAddSp | tAddSpImm | tBlPrefix => exact .next h.finish
  case tPush | tStmia => exact h.storeMultiple
  case tPop | tLdmia => exact h.loadMultiple
  case tSwi => exact .next (enterException_legal s _ _)
  case tB => exact .next h.branch
  case tBlSuffix => exact .next h.setReg.branch
  case tUndef10110001 | tUndef1011001x | tUndef1011011x | tUndef101110xx | tUndef1011111x | tUndef11011110 |
      tUndef11101 =>
    exact .next (enterException_legal (s.internal 1) _ _)

theorem runCpu_legal {s t : State} (hs : s.cpu.legal) (h : s.runCpu = .next t) : t.cpu.legal := by
  rcases State.runCpu_cases h with ⟨-, rfl⟩ | ⟨-, -, rfl⟩ | ⟨-, -, u, hu, rfl⟩
  · exact hs
  · exact hs
  · rw [State.commit_cpu]
    exact exec_legal _ hs.same u hu

theorem checkIrq_legal {s : State} (h : s.cpu.legal) : s.checkIrq.cpu.legal := by
  rcases s.checkIrq_cases with e | e <;> rw [e]
  · exact h
  · rw [State.commit_cpu]
    exact enterException_legal s _ _

theorem runEvents_legal {s t : State} (hs : s.cpu.legal) (h : s.runEvents = .next t) : t.cpu.legal := by
  obtain ⟨y, -, ⟨-, rfl⟩ | ⟨-, rfl⟩⟩ := State.runEvents_cases h
  · exact hs
  · refine checkIrq_legal ?_
    rcases (s.withSys { y with midDispatch := false }).wakeUp_cases with e | e <;> rw [e] <;> exact hs

/-- Settles O48: both halves of a step keep the mode valid and the program counter aligned. -/
theorem stepKeepsCpuLegal : Obligations.StepKeepsCpuLegal := by
  intro s t hs h
  obtain ⟨u, hu, ht⟩ := step_cases h
  rw [← State.rollFrame_cpu] at hs
  exact runEvents_legal (runCpu_legal hs hu) ht

/-! ## Images and parameters (10_state.md R75, R76) -/

/-- The bytes of the BIOS and ROM images and the parameters are the same. -/
structure SameImages (y z : Sys) : Prop where
  readOnly : ∀ k, readOnlyKey k = true → Memory.read z.mem k = Memory.read y.mem k
  params   : z.params = y.params

theorem SameImages.refl (y : Sys) : SameImages y y := ⟨fun _ _ => rfl, rfl⟩

theorem SameImages.trans {x y z : Sys} (h : SameImages x y) (g : SameImages y z) : SameImages x z :=
  ⟨fun k hk => (g.readOnly k hk).trans (h.readOnly k hk), g.params.trans h.params⟩

/-- A change of other parts of the system. -/
theorem SameImages.congr {x y z : Sys} (h : SameImages x y) (hm : z.mem = y.mem := by rfl)
    (hp : z.params = y.params := by rfl) : SameImages x z := h.trans ⟨fun _ _ => by rw [hm], hp⟩

theorem SysKeep.sameImages {y z : Sys} (h : SysKeep y z) : SameImages y z := ⟨h.readOnly, h.params⟩

/-- The charge of an access is no memory. -/
theorem SysRun.sameImages {y z : Sys} : SysRun y z → SameImages y z
  | ⟨_, h⟩ => ⟨h.readOnly, h.params⟩

theorem executeOne_sameImages {s t : State} (h : s.executeOne = .next t) : SameImages s.sys t.sys :=
  (SysRun.fetch s.sys _ _ _).sameImages.trans (exec_runs _ _ t h).run.sameImages

theorem runCpu_sameImages {s t : State} (h : s.runCpu = .next t) : SameImages s.sys t.sys := by
  rcases State.runCpu_cases h with ⟨-, rfl⟩ | ⟨-, -, rfl⟩ | ⟨-, -, u, hu, rfl⟩
  · exact .refl _
  · exact (SameImages.refl s.sys).congr
  · exact (executeOne_sameImages hu).congr

theorem wakeUp_sameImages (s : State) : SameImages s.sys s.wakeUp.sys := by
  rcases s.wakeUp_cases with e | e <;> rw [e] <;> exact (SameImages.refl s.sys).congr

theorem checkIrq_sameImages (s : State) : SameImages s.sys s.checkIrq.sys := by
  rcases s.checkIrq_cases with e | e <;> rw [e]
  · exact .refl _
  · have entered : SameImages s.sys s.takeIrq.sys := (Runs.refl s).enterException.run.sameImages
    exact entered.congr (State.commit_sys_mem _) (State.commit_sys_params _)

theorem runEvents_sameImages {s t : State} (h : s.runEvents = .next t) : SameImages s.sys t.sys := by
  obtain ⟨y, hy, ht⟩ := State.runEvents_cases h
  have dispatched : SameImages s.sys y := (SysKeep.dispatchDue _ _ y hy).sameImages
  rcases ht with ⟨-, rfl⟩ | ⟨-, rfl⟩
  · exact dispatched.congr
  · exact (dispatched.congr.trans (wakeUp_sameImages _)).trans (checkIrq_sameImages _)

/-- Settles O49: no part of a step writes a read-only byte or a parameter. -/
theorem stepKeepsReadOnly : Obligations.StepKeepsReadOnly := by
  intro s t h
  obtain ⟨u, hu, ht⟩ := step_cases h
  obtain ⟨readOnly, params⟩ := (runCpu_sameImages hu).trans (runEvents_sameImages ht)
  exact ⟨readOnly, params⟩

end Sys2Proof.Machine
end

section
/-! PROOFS. O22 (spec/10_state.md R56, 20_memory.md R120, R124): a fetch of a byte array reads it and sets the latches, and a
branch is two of them. -/

namespace Sys2Proof.Machine

open Sys2Proof

/-! ## Plain fetches -/

/-- The EEPROM window lies in the third ROM region (20_memory.md R119). -/
theorem Region.of_eepromWindow {y : Sys} {a : Word} (h : y.inEepromWindow a = true) : Region.of a = .rom 2 := by
  have hk : a.toNat / 0x1000000 = 0x0D := by
    unfold Sys.inEepromWindow at h
    split at h <;> simp only [Bool.and_eq_true, decide_eq_true_eq] at h <;> omega
  simp [Region.of, hk]

theorem Sys.inEepromWindow_of_plainFetch {y : Sys} {a : Word} (h : y.plainFetch a = true) :
    y.inEepromWindow a = false := by
  refine Bool.eq_false_iff.2 fun hw => ?_
  simp [Sys.plainFetch, Region.of_eepromWindow hw, hw] at h

theorem Sys.region_ne_bios_of_plainFetch {y : Sys} {a : Word} (h : y.plainFetch a = true) : Region.of a ≠ .bios := by
  intro hb
  simp [Sys.plainFetch, hb] at h

/-- The open-bus latch after a fetch: the word, or the halfword in both halves (20_memory.md R120). -/
def fetchLatch (thumb : Bool) (v : Word) : Word := if thumb then v.extractLsb' 0 16 ++ v.extractLsb' 0 16 else v

/-- The system after a plain fetch: the two latches and the cost. -/
def Sys.fetched (y : Sys) (a last : Word) (n : Nat) : Sys :=
  { y with lastFetchAddr := a, lastFetch := last, cost := y.cost + n }

/-- What a plain fetch reads depends on neither latch nor on the cost (20_memory.md R106). -/
theorem Sys.peekAligned_fetched {y : Sys} {a : Word} (h : y.plainFetch a = true) (w : Width) (b last : Word) (n : Nat) :
    (y.fetched b last n).peekAligned w a = y.peekAligned w a := by
  unfold Sys.plainFetch at h
  unfold Sys.peekAligned
  cases hr : Region.of a <;> simp only [hr] at h ⊢
  case bios | io | unmapped => cases h
  all_goals rfl

theorem align_fetchWidth (thumb : Bool) (a : Word) : (fetchWidth thumb).align a = alignPc thumb a := by
  cases thumb <;> rfl

/-- A plain read changes nothing (20_memory.md R162). -/
theorem Sys.memRead_plain {y : Sys} {w : Width} {a : Word} (h : y.plainFetch a = true) (ha : w.align a = a) :
    y.memRead w a = (y.peekAligned w a, y) := by
  simp only [Sys.memRead, ha, Sys.inEepromWindow_of_plainFetch h, Bool.false_eq_true, if_false]

/-- A plain fetch at an aligned address reads the array, sets the latch, and charges one access. -/
theorem Sys.fetch_plain {y : Sys} {thumb : Bool} {a : Word} (kind : Access) (h : y.plainFetch a = true)
    (ha : alignPc thumb a = a) :
    y.fetch kind thumb a = (y.peekAligned (fetchWidth thumb) a,
      y.fetched a (fetchLatch thumb (y.peekAligned (fetchWidth thumb) a))
        (accessCost y.waitcnt kind (fetchWidth thumb) a)) := by
  have hread := Sys.memRead_plain (y := y.fetched a y.lastFetch (accessCost y.waitcnt kind (fetchWidth thumb) a)) h
    ((align_fetchWidth thumb a).trans ha)
  rw [Sys.peekAligned_fetched h] at hread
  have hb : ¬ (offset25 a < Config.biosSize ∧ Region.of a = .bios) := fun hb => Sys.region_ne_bios_of_plainFetch h hb.2
  simp only [Sys.fetched] at hread
  simp only [Sys.fetch, Sys.memFetch, Sys.charge, hread, hb, if_false, Sys.fetched, fetchLatch]

/-- A branch in terms of its two fetches (10_state.md R56). -/
theorem State.branch_of_fetches {s : State} {target : Word} {f0 f1 : Word × Sys}
    (h0 : s.sys.fetch .nonseq s.cpu.cpsr.t (alignPc s.cpu.cpsr.t target) = f0)
    (h1 : f0.2.fetch .seq s.cpu.cpsr.t (alignPc s.cpu.cpsr.t target + widthOf s.cpu.cpsr.t) = f1) :
    s.branch target =
      { cpu := { s.cpu with pc := alignPc s.cpu.cpsr.t target, pipe0 := f0.1, pipe1 := f1.1 }, sys := f1.2 } := by
  subst h0 h1
  rfl

/-- Settles O22: the refill is two plain fetches, the second of which reads what it would have read before the first. -/
theorem branchRefills : Obligations.BranchRefills := by
  intro target st t pc w next word hpc hnext
  have ha : alignPc t pc = pc := alignPc_alignPc t target
  have second (last : Word) (n : Nat) := Sys.fetch_plain (y := st.sys.fetched pc last n) .seq hnext (alignPc_add_widthOf ha)
  simp only [Sys.peekAligned_fetched hnext] at second
  rw [State.branch_of_fetches (Sys.fetch_plain .nonseq hpc ha) (second _ _)]
  rfl

end Sys2Proof.Machine
end

section
/-! PROOFS. O7 (spec/10_state.md R52, 61_timers_dma.md R603): a step runs the decoded instruction, and the
canonical code of a well-formed instruction decodes to it (30_encoding.md R217). -/

namespace Sys2Proof

/-! ## Bits of a code -/

/-- A bit of a literal, in the form whose value is computed. -/
theorem bitAt_ofNat (n v k : Nat) : bitAt (BitVec.ofNat n v) k = (BitVec.ofNat n v).getLsbD k := rfl

/-- A word of a row has the row's pattern where its mask is set. -/
theorem bitAt_of_inRow {n : Nat} {mask pattern w : BitVec n} (h : inRow mask pattern w = true) {k : Nat}
    (hk : bitAt mask k = true) : bitAt w k = bitAt pattern k := by
  have e := congrArg (bitAt · k) (eq_of_beq h)
  simp only [bitAt, BitVec.getLsbD_and] at e hk ⊢
  rwa [hk, Bool.and_true] at e

/-! ## The three forms of data processing (40_arm_dataproc.md) -/

section
variable (cond : Cond) (s : Bool) (v : BitVec 7) (rn rd rs rm rotate : RegNum) (n : BitVec 5) (k : ShiftKind) (imm8 : Byte)
  (h27 : bitAt v 6 = false) (h26 : bitAt v 5 = false) (ht : (bitAt v 3 && !bitAt v 2 && !s) = false)
include h27 h26 ht

theorem decodeArm_dpShi_word (h25 : bitAt v 4 = false) :
    decodeArm (cond.bits ++ v ++ BitVec.ofBool s ++ rn ++ rd ++ n ++ k.bits ++ 0b0#1 ++ rm : Word) =
      .dpShi (DpOp.ofBits (field v 0 4)) cond s rn rd n k rm := by
  simp (disch := decide) only [decodeArm, decodeArmDpReg, h27, h26, h25, ht, field_append_lo, field_append_hi,
    bitAt_append_lo, bitAt_append_hi, Nat.reduceSub, field_all, bitAt_ofBool, bitAt_ofNat, BitVec.reduceGetLsb,
    Bool.false_eq_true, ↓reduceIte, Cond.ofBits_bits, ShiftKind.ofBits_bits, Bool.and_false]

theorem decodeArm_dpShr_word (h25 : bitAt v 4 = false) :
    decodeArm (cond.bits ++ v ++ BitVec.ofBool s ++ rn ++ rd ++ rs ++ 0b0#1 ++ k.bits ++ 0b1#1 ++ rm : Word) =
      .dpShr (DpOp.ofBits (field v 0 4)) cond s rn rd rs k rm := by
  simp (disch := decide) only [decodeArm, decodeArmDpReg, h27, h26, h25, ht, field_append_lo, field_append_hi,
    bitAt_append_lo, bitAt_append_hi, Nat.reduceSub, field_all, bitAt_ofBool, bitAt_ofNat, BitVec.reduceGetLsb,
    Bool.false_eq_true, ↓reduceIte, Cond.ofBits_bits, ShiftKind.ofBits_bits, Bool.false_and]

theorem decodeArm_dpImm_word (h25 : bitAt v 4 = true) :
    decodeArm (cond.bits ++ v ++ BitVec.ofBool s ++ rn ++ rd ++ rotate ++ imm8 : Word) =
      .dpImm (DpOp.ofBits (field v 0 4)) cond s rn rd rotate imm8 := by
  simp (disch := decide) only [decodeArm, decodeArmImm, h27, h26, h25, ht, field_append_lo, field_append_hi,
    bitAt_append_lo, bitAt_append_hi, Nat.reduceSub, field_all, bitAt_ofBool, Bool.false_eq_true, ↓reduceIte,
    Cond.ofBits_bits]

end

/-! ## ARM words -/

/-- Decoding the canonical word of a well-formed instruction gives it back: the fixed bits lead to its row, and every
operand is read from its field. -/
theorem decodeArm_encode {i : Instr} {w : Word} (hi : i.wellFormed = true) (he : encode i = .arm w) : decodeArm w = i := by
  cases i
  case andShi | eorShi | subShi | rsbShi | addShi | adcShi | sbcShi | rscShi | orrShi | movShi | bicShi | mvnShi =>
    cases he
    exact decodeArm_dpShi_word _ _ _ _ _ _ _ _ rfl rfl rfl rfl
  case andShr | eorShr | subShr | rsbShr | addShr | adcShr | sbcShr | rscShr | orrShr | movShr | bicShr | mvnShr =>
    cases he
    exact decodeArm_dpShr_word _ _ _ _ _ _ _ _ rfl rfl rfl rfl
  case andImm | eorImm | subImm | rsbImm | addImm | adcImm | sbcImm | rscImm | orrImm | movImm | bicImm | mvnImm =>
    cases he
    exact decodeArm_dpImm_word _ _ _ _ _ _ _ rfl rfl rfl rfl
  case tstShi | teqShi | cmpShi | cmnShi | tstShr | teqShr | cmpShr | cmnShr | tstImm | teqImm | cmpImm | cmnImm =>
    cases he
    simp (disch := decide) only [decodeArm, decodeArmDpReg, decodeArmImm, field_append_lo, field_append_hi,
      bitAt_append_lo, bitAt_append_hi, Nat.reduceSub, field_all, bitAt_ofNat, BitVec.reduceGetLsb,
      Bool.false_eq_true, ↓reduceIte, Cond.ofBits_bits, ShiftKind.ofBits_bits, Bool.and_true, Bool.and_false,
      Bool.not_true, Bool.not_false]
    rfl
  case mul | mla | umull | umlal | smull | smlal | swp | swpb | mrs | msrReg | msrImm | bx | strhReg | strhImm |
      ldrhReg | ldrhImm | ldrsbReg | ldrsbImm | ldrshReg | ldrshImm | strImmPre | strImmPost | strtImm | ldrImmPre |
      ldrImmPost | ldrtImm | strbImmPre | strbImmPost | strbtImm | ldrbImmPre | ldrbImmPost | ldrbtImm | strRegPre |
      strRegPost | strtReg | ldrRegPre | ldrRegPost | ldrtReg | strbRegPre | strbRegPost | strbtReg | ldrbRegPre |
      ldrbRegPost | ldrbtReg | stm | ldm | stmS | ldmS | b | bl | ldcStc | swi | cdp | mrcMcr =>
    cases he
    simp (disch := decide) only [decodeArm, decodeArmMulSwp, decodeArmHalf, decodeArmMisc, decodeArmImm,
      decodeArmSingleImm, decodeArmSingleReg, decodeArmBlock, field_append_lo, field_append_hi, bitAt_append_lo,
      bitAt_append_hi, Nat.reduceSub, field_all, bitAt_ofBool, bitAt_ofNat, BitVec.reduceGetLsb, Bool.false_eq_true,
      ↓reduceIte, Cond.ofBits_bits, ShiftKind.ofBits_bits, Bool.and_true, Bool.and_false, Bool.or_false,
      Bool.or_true, Bool.not_false]
  case undefMul00001 | undefMul00011 | undefSwpX1 | undefSwp10 | undefLdrdStrd | undefMiscBx00 | undefMiscBx10 |
      undefMiscBx11 | undefMisc01xx | undefMisc001x | undefMisc1xx0 | undefMovStatus | undefMedia =>
    cases he
    have h := @bitAt_of_inRow _ _ _ _ hi
    simp (disch := decide) only [decodeArm, decodeArmMulSwp, decodeArmHalf, decodeArmMisc, decodeArmImm, h, bitAt_ofNat,
      Bool.true_or, BitVec.reduceGetLsb, Bool.false_eq_true, ↓reduceIte, Bool.and_true, Bool.and_false, Bool.false_and,
      Bool.or_false, Bool.not_false]
  all_goals cases he

/-! ## THUMB halfwords -/

/-- The same of the canonical halfword. -/
theorem decodeThumb_encode {i : Instr} {w : Half} (hi : i.wellFormed = true) (he : encode i = .thumb w) :
    decodeThumb w = i := by
  cases i
  case tLslImm | tLsrImm | tAsrImm | tAddReg | tSubReg | tAddImm3 | tSubImm3 | tMovImm8 | tCmpImm8 | tAddImm8 |
      tSubImm8 | tAnd | tEor | tLslReg | tLsrReg | tAsrReg | tAdc | tSbc | tRorReg | tTst | tNeg | tCmpReg | tCmn |
      tOrr | tMul | tBic | tMvn | tAddHi | tCmpHi | tMovHi | tBx | tLdrPc | tStrReg | tStrbReg | tLdrReg | tLdrbReg |
      tStrhReg | tLdsbReg | tLdrhReg | tLdshReg | tStrImm | tLdrImm | tStrbImm | tLdrbImm | tStrhImm | tLdrhImm |
      tStrSp | tLdrSp | tAddPc | tAddSp | tAddSpImm | tPush | tPop | tStmia | tLdmia | tSwi | tB | tBlPrefix |
      tBlSuffix =>
    cases he
    simp (disch := decide) only [decodeThumb, decodeThumbShiftAdd, decodeThumbImm8, decodeThumbAlu, decodeThumbHi,
      decodeThumbRegOffset, decodeThumbImmOffset, decodeThumbMisc, decodeThumbBranch, field_append_lo, field_append_hi,
      bitAt_append_lo, bitAt_append_hi, Nat.reduceSub, field_all, bitAt_ofBool, bitAt_ofNat, BitVec.reduceGetLsb,
      Bool.false_eq_true, ↓reduceIte]
  case tBcond0xxx | tBcond10xx | tBcond110x =>
    cases he
    have h := @bitAt_of_inRow _ _ _ _ hi
    simp (disch := decide) only [decodeThumb, decodeThumbBranch, h, field_append_lo, field_append_hi, bitAt_append_lo,
      bitAt_append_hi, Nat.reduceSub, field_all, bitAt_ofNat, BitVec.reduceGetLsb, ↓reduceIte, Cond.ofBits_bits]
  case tUndef10110001 | tUndef1011001x | tUndef1011011x | tUndef101110xx | tUndef1011111x | tUndef11011110 |
      tUndef11101 =>
    cases he
    have h := @bitAt_of_inRow _ _ _ _ hi
    simp (disch := decide) only [decodeThumb, decodeThumbMisc, decodeThumbBranch, h, bitAt_ofNat, BitVec.reduceGetLsb,
      ↓reduceIte]
  all_goals cases he

end Sys2Proof
namespace Sys2Proof.Machine

open Sys2Proof

/-! ## The step of a running CPU -/

/-- The word in `pipe0` read in ARM state. -/
theorem State.currentInstr_arm {i : Instr} {s : State} (hi : i.wellFormed = true) (he : encode i = .arm s.cpu.pipe0)
    (ht : s.cpu.cpsr.t = false) : s.currentInstr = i := by
  simp only [State.currentInstr, ht, Bool.false_eq_true, if_false]
  exact decodeArm_encode hi he

/-- The halfword in `pipe0` read in THUMB state. -/
theorem State.currentInstr_thumb {i : Instr} {s : State} (hi : i.wellFormed = true)
    (he : encode i = .thumb (s.cpu.pipe0.extractLsb' 0 16)) (ht : s.cpu.cpsr.t = true) : s.currentInstr = i := by
  simp only [State.currentInstr, ht, if_true]
  exact decodeThumb_encode hi he

@[simp] theorem State.rollFrame_currentInstr (s : State) : s.rollFrame.currentInstr = s.currentInstr := by
  rw [State.currentInstr, State.rollFrame_cpu, State.currentInstr]

/-- The step of a running CPU that was handed no dispatch: its instruction, then the commit and the events. -/
theorem step_of_running {s : State} (hh : s.sys.halted = false) (hm : s.sys.midDispatch = false) :
    step s = (match exec s.currentInstr (s.rollFrame.fetchNext (fetchAccess s.currentInstr s.cpu.cpsr)) with
      | .next t => t.commit.runEvents
      | .fault f => .fault f
      | .refused r => .refused r) := by
  have hexec : s.rollFrame.executeOne =
      exec s.currentInstr (s.rollFrame.fetchNext (fetchAccess s.currentInstr s.cpu.cpsr)) := by
    simp only [State.executeOne, State.rollFrame_currentInstr, State.rollFrame_cpu]
  simp only [step, State.machineStep, State.runCpu, State.rollFrame_sys_midDispatch, State.rollFrame_sys_halted, hh, hm,
    Bool.false_eq_true, if_false, hexec]
  cases exec s.currentInstr (s.rollFrame.fetchNext (fetchAccess s.currentInstr s.cpu.cpsr)) <;> rfl

/-- `PCread` as an offset from the instruction: 4 in THUMB state, 8 in ARM state (10_state.md R53). -/
theorem State.pcRead_eq (s : State) : s.pcRead = s.cpu.pc + (if s.cpu.cpsr.t then 4#32 else 8#32) := by
  simp only [State.pcRead, widthOf, BitVec.add_assoc]
  split <;> rfl

/-- Settles O7: the code in `pipe0` decodes to the instruction, so a running step is that instruction after the fetch of
`PCread`. -/
theorem stepRunsDecoded : Obligations.StepRunsDecoded := by
  refine ⟨fun i w s hi he hw ht hh hm => ?_, fun i w s hi he hw ht hh hm => ?_, fun k s => ?_⟩
  · subst hw
    have h := step_of_running hh hm
    rw [State.currentInstr_arm hi he ht] at h
    exact h
  · subst hw
    have h := step_of_running hh hm
    rw [State.currentInstr_thumb hi he ht] at h
    exact h
  · rw [← State.pcRead_eq]
    rfl

end Sys2Proof.Machine
end

section
/-! PROOFS. O47 (spec/20_memory.md R100, R101, R107, log entry 1): what every operation outside the CPU keeps, whatever the
clock and the power flags are, every step keeps; the canonical form of the memory list is such a property. -/

namespace Sys2Proof.Machine

open Sys2Proof

/-- A property of the system that every operation outside the CPU keeps and that does not look at the clock, the charged
cost, the frame end or the flags `halted` and `midDispatch`. -/
structure SysInvariant (P : Sys → Prop) : Prop where
  keep  : ∀ {y z : Sys}, SysKeep y z → P y → P z
  clock : ∀ {y : Sys} (now cost frameEnd : Nat) (halted mid : Bool), P y →
    P { y with now := now, cost := cost, frameEndPrev := frameEnd, halted := halted, midDispatch := mid }

namespace SysInvariant

variable {P : Sys → Prop} {s t : State} (hP : SysInvariant P)

include hP

theorem run {y z : Sys} (h : SysRun y z) (hy : P y) : P z := by
  obtain ⟨n, h⟩ := h
  exact hP.keep h.toSysKeep (hP.clock y.now (y.cost + n) y.frameEndPrev y.halted y.midDispatch hy)

theorem commit (h : P s.sys) : P s.commit.sys := hP.clock _ _ s.sys.frameEndPrev s.sys.halted s.sys.midDispatch h

theorem idle (h : P s.sys) : P s.idle.sys :=
  hP.clock _ s.sys.cost s.sys.frameEndPrev s.sys.halted s.sys.midDispatch h

theorem rollFrame (h : P s.sys) : P s.rollFrame.sys :=
  hP.clock s.sys.now s.sys.cost _ s.sys.halted s.sys.midDispatch h

theorem executeOne (h : P s.sys) (e : s.executeOne = .next t) : P t.sys :=
  hP.run (exec_runs _ _ t e).run (hP.run (SysRun.fetch s.sys _ _ _) h)

theorem runCpu (h : P s.sys) (e : s.runCpu = .next t) : P t.sys := by
  rcases State.runCpu_cases e with ⟨-, rfl⟩ | ⟨-, -, rfl⟩ | ⟨-, -, u, hu, rfl⟩
  · exact h
  · exact hP.idle h
  · exact hP.commit (hP.executeOne h hu)

theorem wakeUp (h : P s.sys) : P s.wakeUp.sys := by
  rcases s.wakeUp_cases with e | e <;> rw [e]
  · exact h
  · exact hP.clock s.sys.now s.sys.cost s.sys.frameEndPrev false s.sys.midDispatch h

theorem checkIrq (h : P s.sys) : P s.checkIrq.sys := by
  rcases s.checkIrq_cases with e | e <;> rw [e]
  · exact h
  · exact hP.commit (hP.run (Runs.refl s).enterException.run h)

theorem runEvents (h : P s.sys) (e : s.runEvents = .next t) : P t.sys := by
  obtain ⟨y, hy, ht⟩ := State.runEvents_cases e
  have dispatched (mid : Bool) : P { y with midDispatch := mid } :=
    hP.clock y.now y.cost y.frameEndPrev y.halted mid (hP.keep (SysKeep.dispatchDue _ _ y hy) h)
  rcases ht with ⟨-, rfl⟩ | ⟨-, rfl⟩
  · exact dispatched true
  · exact hP.checkIrq (hP.wakeUp (dispatched false))

/-- Every step keeps it (61_timers_dma.md R603). -/
theorem step (h : P s.sys) (e : step s = .next t) : P t.sys := by
  obtain ⟨u, hu, ht⟩ := step_cases e
  exact hP.runEvents (hP.runCpu (hP.rollFrame h) hu) ht

end SysInvariant

/-- The canonical form of the memory list and of the storage registers. -/
theorem canonical_sysInvariant :
    SysInvariant fun y => Memory.wf y.mem ∧ Sparse.wf (fun _ => 0#16) y.storage where
  keep h := And.imp h.memory h.storage
  clock _ _ _ _ _ h := h

/-- Settles O47: every operation outside the CPU keeps the canonical form, so every step does. -/
theorem stepKeepsMemoryCanonical : Obligations.StepKeepsMemoryCanonical :=
  fun _ _ => canonical_sysInvariant.step

end Sys2Proof.Machine
end

section
/-! PROOFS. O24 and O26 (spec/20_memory.md R101..R119): aligned addresses, what a read of EWRAM or IWRAM yields byte by byte,
and the bytes a store leaves, region by region. -/

namespace Sys2Proof.Machine

open Sys2Proof

/-! ## Aligned addresses (20_memory.md R103) -/

theorem Width.align_toNat (w : Width) (a : Word) : (w.align a).toNat = a.toNat / w.bytes * w.bytes := by
  cases w
  · simp [Width.align, Width.bytes]
  · exact alignPc_toNat true a
  · exact alignPc_toNat false a

/-- An aligned address lies in the region of the address. -/
theorem Region.of_align (w : Width) (a : Word) : Region.of (w.align a) = Region.of a := by
  have h : (w.align a).toNat / 0x1000000 = a.toNat / 0x1000000 := by
    rw [Width.align_toNat]
    cases w <;> simp only [Width.bytes] <;> omega
  unfold Region.of
  rw [h]

/-! ## Bytes of words (20_memory.md R101, R102) -/

/-- Four bytes joined from the left or in pairs. -/
theorem joinPairs (a b c d : Byte) : ((a ++ b : Half) ++ (c ++ d : Half) : Word) = a ++ b ++ c ++ d :=
  (BitVec.append_assoc ..).symm

/-- The bytes of a word put together from four. -/
theorem extractByte_append (b : Nat → Byte) {k : Nat} (hk : k < 4) :
    (b 3 ++ b 2 ++ b 1 ++ b 0 : Word).extractLsb' (8 * k) 8 = b k := by
  interval_cases k
  · exact BitVec.extractLsb'_append_eq_right
  · exact (BitVec.extractLsb'_append_eq_of_le (by decide)).trans BitVec.extractLsb'_append_eq_right
  · exact ((BitVec.extractLsb'_append_eq_of_le (by decide)).trans
      (BitVec.extractLsb'_append_eq_of_le (by decide))).trans BitVec.extractLsb'_append_eq_right
  · exact (BitVec.extractLsb'_append_eq_of_le (by decide)).trans ((BitVec.extractLsb'_append_eq_of_le (by decide)).trans
      BitVec.extractLsb'_append_eq_left)

/-- The bytes of a word rotated right by whole bytes. -/
theorem extractByte_rotateRight (v : Word) {r k : Nat} (_ : r < 4) (hk : k < 4) :
    (v.rotateRight (8 * r)).extractLsb' (8 * k) 8 = v.extractLsb' (8 * ((r + k) % 4)) 8 := by
  ext i hi
  simp only [BitVec.getElem_extractLsb', BitVec.getLsbD_rotateRight, Bool.cond_decide]
  split
  · congr 1; omega
  · rw [decide_eq_true (by omega), Bool.true_and]; congr 1; omega

/-- A halfword rotated right by 8 in a word: its low byte comes on top. -/
theorem rotateRight_half (x y : Byte) : ((x ++ y).zeroExtend 32 : Word).rotateRight 8 = y ++ 0#16 ++ x := by
  refine BitVec.eq_of_getLsbD_eq fun i hi => ?_
  simp only [BitVec.getLsbD_rotateRight, Bool.cond_decide, BitVec.getLsbD_append, BitVec.zeroExtend,
    BitVec.getLsbD_setWidth, BitVec.getLsbD_zero]
  rcases Nat.lt_or_ge i 8 with h8 | h8
  · simp (disch := omega) only [if_pos, if_neg, decide_eq_true, Bool.true_and]
    congr 1; omega
  rcases Nat.lt_or_ge i 24 with h24 | h24
  · simp (disch := omega) only [if_pos, if_neg, decide_eq_true, Bool.true_and, BitVec.getLsbD_of_ge]
  · simp (disch := omega) only [if_pos, if_neg, decide_eq_true, Bool.true_and]
    congr 1

/-- The low part of a zero-extended value is the value. -/
theorem extract_zeroExtend {n : Nat} (hn : n ≤ 32) (b : BitVec n) :
    (b.zeroExtend 32 : Word).extractLsb' 0 n = b := by
  rw [BitVec.zeroExtend, BitVec.extractLsb'_setWidth_of_le (by omega), BitVec.extractLsb'_eq_self]

/-! ## Reads of EWRAM and IWRAM (20_memory.md R101, R109) -/

/-- `a` lies in EWRAM or IWRAM, whose bytes stand from the key `base` on and repeat every `size` bytes. -/
def RamAt (a : Word) (base size : Nat) : Prop :=
  (Region.of a = .ewram ∧ base = 0x02000000 ∧ size = 0x40000) ∨
    (Region.of a = .iwram ∧ base = 0x03000000 ∧ size = 0x8000)

section
variable {a : Word} {base size : Nat} (h : RamAt a base size)
include h

/-- The bytes of an aligned word stand at consecutive keys. -/
theorem RamAt.add_mod {n k : Nat} (hn : n % 4 + k < 4) : (n + k) % size = n % size + k := by
  rcases h with ⟨-, -, rfl⟩ | ⟨-, -, rfl⟩ <;> omega

theorem RamAt.not_window (y : Sys) (w : Width) : y.inEepromWindow (w.align a) = false := by
  refine Bool.eq_false_iff.2 fun hw => ?_
  have hr := Region.of_align w a ▸ Region.of_eepromWindow hw
  rcases h with ⟨he, -⟩ | ⟨he, -⟩ <;> exact absurd (he.symm.trans hr) (by decide)

/-- A read takes the little-endian value at the aligned address and changes nothing. -/
theorem RamAt.memRead (y : Sys) (w : Width) :
    y.memRead w a = (Memory.readLE y.mem w (base + a.toNat / w.bytes * w.bytes % size), y) := by
  have hw := h.not_window y w
  simp only [Sys.memRead, hw, Bool.false_eq_true, if_false, Sys.peekAligned, Region.of_align]
  rcases h with ⟨hr, rfl, rfl⟩ | ⟨hr, rfl, rfl⟩ <;> rw [hr, ← Width.align_toNat] <;> rfl

/-- A write stores the little-endian value at the aligned address. -/
theorem RamAt.memWrite (y : Sys) (w : Width) (v : Word) :
    y.memWrite w a v = .ok (y.withMem (Memory.writeLE y.mem w (base + a.toNat / w.bytes * w.bytes % size) v)) := by
  simp only [Sys.memWrite, Region.of_align]
  rcases h with ⟨hr, rfl, rfl⟩ | ⟨hr, rfl, rfl⟩ <;> rw [hr, ← Width.align_toNat] <;> rfl

theorem RamAt.memRead_word (y : Sys) :
    (y.memRead .word a).1 =
      Memory.read y.mem (base + (a.toNat / 4 * 4 + 3) % size) ++ Memory.read y.mem (base + (a.toNat / 4 * 4 + 2) % size) ++
        Memory.read y.mem (base + (a.toNat / 4 * 4 + 1) % size) ++ Memory.read y.mem (base + a.toNat / 4 * 4 % size) := by
  rw [h.memRead, h.add_mod (by omega), h.add_mod (by omega), h.add_mod (by omega)]
  exact joinPairs ..

theorem RamAt.memRead_half (y : Sys) :
    (y.memRead .half a).1 =
      (Memory.read y.mem (base + (a.toNat / 2 * 2 + 1) % size) ++
        Memory.read y.mem (base + a.toNat / 2 * 2 % size)).zeroExtend 32 := by
  rw [h.memRead, h.add_mod (by omega)]
  rfl

theorem RamAt.memRead_byte (y : Sys) :
    (y.memRead .byte a).1 = (Memory.read y.mem (base + a.toNat % size)).zeroExtend 32 := by
  rw [h.memRead]
  simp only [Width.bytes, Nat.div_one, Nat.mul_one]
  rfl

end

/-! ## The values of the loads (43_arm_loadstore.md R354..R366) -/

theorem getLsbD_zero_eq (a : Word) : a.getLsbD 0 = decide (a.toNat % 2 = 1) := Nat.testBit_zero _

/-- A word load rotates the addressed byte to the bottom (43_arm_loadstore.md R354). -/
theorem extractByte_extract_word (a v : Word) {k : Nat} (hk : k < 4) :
    (LoadKind.word.extract a v).extractLsb' (8 * k) 8 = v.extractLsb' (8 * ((a.toNat + k) % 4)) 8 := by
  have hr : (a.extractLsb' 0 2).toNat = a.toNat % 4 := BitVec.extractLsb'_toNat ..
  rw [LoadKind.extract, hr, extractByte_rotateRight v (Nat.mod_lt _ (by decide)) hk, Nat.mod_add_mod]

/-- A halfword load rotates by 8 from an odd address (43_arm_loadstore.md R363). -/
theorem extract_half (a : Word) (x y : Byte) :
    LoadKind.half.extract a ((x ++ y).zeroExtend 32) =
      if a.toNat % 2 = 0 then (x ++ y).zeroExtend 32 else y ++ 0#16 ++ x := by
  rw [LoadKind.extract, getLsbD_zero_eq, rotateRight_half]
  rcases Nat.mod_two_eq_zero_or_one a.toNat with h | h <;> simp [h]

/-- Settles O24: each load reads the little-endian value at its aligned address, and the byte order follows from the two
rotations. -/
theorem ramLoadValues : Obligations.RamLoadValues := by
  intro y a base size (h : RamAt a base size) byte w hw
  refine ⟨h.memRead_word y, fun k hk => ?word, h.memRead_byte y, ?half, ?signedByte, ?signedHalf,
    fun v => by rw [h.memRead]⟩
  case word =>
    rw [extractByte_extract_word _ _ hk, h.memRead_word]
    exact extractByte_append (fun n => byte (w + n)) (Nat.mod_lt _ (by decide))
  case half => rw [h.memRead_half, extract_half]
  case signedByte => rw [LoadKind.extract, h.memRead_byte, extract_zeroExtend (by decide)]
  case signedHalf =>
    rw [LoadKind.extract, LoadKind.width, getLsbD_zero_eq]
    rcases Nat.mod_two_eq_zero_or_one a.toNat with ha | ha
    · simp only [ha, zero_ne_one, decide_false, Bool.false_eq_true, if_false, if_true, h.memRead_half,
        extract_zeroExtend (n := 16) (by decide)]
      rfl
    · simp only [ha, decide_true, one_ne_zero, if_false, if_true, h.memRead_byte,
        extract_zeroExtend (n := 8) (by decide)]
      rfl

/-! ## The bytes a store leaves (20_memory.md R107, R111..R113, R115, R118, R119) -/

theorem within_eq_false_iff (lo len k : Nat) : within lo len k = false ↔ k < lo ∨ lo + len ≤ k := by
  simp [within]
  omega

/-- A write of a width leaves the bytes outside it. -/
theorem read_writeLE_of_not_within {m : List Host.Cell} {w : Width} {o k : Nat} {v : Word}
    (h : within o w.bytes k = false) : Memory.read (Memory.writeLE m w o v) k = Memory.read m k :=
  Memory.read_writeLE_other m w o v ((within_eq_false_iff ..).1 h)

/-- The two bytes of a halfword written leave the others. -/
theorem read_write_pair {m : List Host.Cell} {o k : Nat} {v : Byte} (h : within o 2 k = false) :
    Memory.read (Memory.write (Memory.write m o v) (o + 1) v) k = Memory.read m k := by
  rw [within_eq_false_iff] at h
  rw [Memory.read_write_other _ _ (by omega), Memory.read_write_other _ _ (by omega)]

/-- A byte goes to both halves of its halfword (20_memory.md R112). -/
theorem pramWrite_other {m : List Host.Cell} {w : Width} {o k : Nat} {v : Word}
    (h : (if w = .byte then within (pramKey (o / 2 * 2)) 2 k else within (pramKey o) w.bytes k) = false) :
    Memory.read (pramWrite m w o v) k = Memory.read m k := by
  have even : o - o % 2 = o / 2 * 2 := by omega
  cases w with
  | byte => rw [pramWrite, even]; exact read_write_pair h
  | half => exact read_writeLE_of_not_within h
  | word => exact read_writeLE_of_not_within h

/-- A byte to the background part goes to both halves of its halfword, one to the object part is dropped
(20_memory.md R111). -/
theorem vramWrite_other {m : List Host.Cell} {d : Half} {w : Width} {o k : Nat} {v : Word}
    (h : (if w = .byte then decide (o < objBase d) && within (vramKey (o / 2 * 2)) 2 k
      else within (vramKey o) w.bytes k) = false) :
    Memory.read (vramWrite m d w o v) k = Memory.read m k := by
  have even : o - o % 2 = o / 2 * 2 := by omega
  cases w with
  | byte =>
    rw [vramWrite, even]
    split
    next ho =>
      rw [if_pos rfl, decide_eq_true ho, Bool.true_and] at h
      exact read_write_pair h
    next => rfl
  | half => exact read_writeLE_of_not_within h
  | word => exact read_writeLE_of_not_within h

/-- A byte to OAM is dropped (20_memory.md R113). -/
theorem oamWrite_other {m : List Host.Cell} {w : Width} {o k : Nat} {v : Word}
    (h : (decide (w ≠ .byte) && within (oamKey o) w.bytes k) = false) :
    Memory.read (oamWrite m w o v) k = Memory.read m k := by
  cases w with
  | byte => rfl
  | half => exact read_writeLE_of_not_within h
  | word => exact read_writeLE_of_not_within h

/-! ### Backup devices -/

theorem Flash.bankBase_le (f : Flash) : f.bankBase ≤ 0x10000 := by
  unfold Flash.bankBase
  split <;> omega

/-- The Flash writes and erases its own bytes only (20_memory.md R151). -/
theorem Sys.flashWrite_other {y : Sys} {b k : Nat} (d : Byte) (hb : b < 0x10000)
    (h : within (flashKey 0) 0x20000 k = false) : Memory.read (y.flashWrite b d).mem k = Memory.read y.mem k := by
  rw [within_eq_false_iff] at h
  have hbank := y.flash.bankBase_le
  unfold flashKey at h
  unfold Sys.flashWrite
  cases y.flash.step with
  | ready => dsimp only; split <;> [rfl; (split <;> rfl)]
  | unlock2 =>
    dsimp only
    split
    · unfold Sys.flashCommand
      split <;> rfl
    · rfl
  | eraseUnlock2 =>
    dsimp only
    split
    · exact Memory.read_eraseRange_other _ (by unfold flashKey; omega)
    · split
      · exact Memory.read_eraseRange_other _ (by unfold flashKey; omega)
      · rfl
  | program => exact Memory.read_write_other _ _ (by unfold flashKey; omega)
  | bankSelect => dsimp only; split <;> rfl
  | unlock1 | eraseArmed | eraseUnlock1 => rfl

/-- A block of the EEPROM lies within its 0x2000 bytes (20_memory.md R152). -/
theorem Sys.eepromBlockKey_bounds (y : Sys) (bits : List Bool) :
    eepromKey 0 ≤ y.eepromBlockKey bits ∧ y.eepromBlockKey bits + 8 ≤ eepromKey 0 + 0x2000 := by
  have hlt : ∀ n, n % y.eepromBlocks < 1024 := by
    intro n
    unfold Sys.eepromBlocks
    split <;> omega
  have := hlt (bitsToNat ((bits.drop 2).take y.eepromAddressBits))
  unfold Sys.eepromBlockKey eepromKey
  omega

/-- A bit written to the EEPROM stores into its own bytes only (20_memory.md R152). -/
theorem Sys.eepromWriteBit_other {y : Sys} {k : Nat} (b : Bool) (h : within (eepromKey 0) 0x2000 k = false) :
    Memory.read (y.eepromWriteBit b).mem k = Memory.read y.mem k := by
  rw [within_eq_false_iff] at h
  unfold Sys.eepromWriteBit
  dsimp only
  split
  next => split <;> [rfl; (split <;> rfl)]
  next =>
    split
    · rfl
    · split
      · rfl
      · obtain ⟨hlo, hhi⟩ := y.eepromBlockKey_bounds (y.eeprom.shift ++ [b])
        dsimp only
        rw [eepromStoreBits_other _ _ _ _ (by omega)]
  next => rfl
  next => rfl

/-- A write to the backup region reaches the bytes of its device only (20_memory.md R118). -/
theorem Sys.backupWrite_other {y : Sys} {a : Word} {k : Nat} (d : Byte)
    (hsram : y.params.backup = .sram → k ≠ sramKey (a.toNat % 0x8000))
    (hflash : Backup.isFlash y.params.backup = true → within (flashKey 0) 0x20000 k = false) :
    Memory.read (y.backupWrite a d).mem k = Memory.read y.mem k := by
  have flash (h : Backup.isFlash y.params.backup = true) :
      Memory.read (y.deviceWrite8 (a.toNat % 0x10000) d).mem k = Memory.read y.mem k := by
    unfold Sys.deviceWrite8
    split
    · exact Sys.flashWrite_other d (Nat.mod_lt _ (by decide)) (hflash h)
    · rfl
  unfold Sys.backupWrite
  cases hb : y.params.backup with
  | sram =>
    refine Memory.read_write_other _ _ ?_
    rw [Nat.mod_mod_of_dvd _ (by decide)]
    exact hsram hb
  | flash64k | flash128k => exact flash (by rw [hb]; rfl)
  | none | eeprom | eeprom512 | eeprom8k => rfl

/-- A write to the ROM regions stores a bit of the EEPROM's or nothing (20_memory.md R115, R119). -/
theorem Sys.romWrite_other {y : Sys} {a : Word} {k : Nat} (v : Word)
    (h : (y.inEepromWindow a && within (eepromKey 0) 0x2000 k) = false) :
    Memory.read (y.romWrite a v).mem k = Memory.read y.mem k := by
  unfold Sys.romWrite
  split
  next hw =>
    rw [hw, Bool.true_and] at h
    unfold Sys.deviceWriteBit
    split
    · exact Sys.eepromWriteBit_other _ h
    · rfl
  next => rfl

/-! ### I/O registers -/

theorem Sys.writeSoundcntH_mem (y : Sys) (value lanes : Half) : (y.writeSoundcntH value lanes).mem = y.mem := by
  unfold Sys.writeSoundcntH
  dsimp only
  split <;> split <;> rfl

theorem Sys.setFifo_mem (y : Sys) (x : FifoName) (q : Fifo) : (y.setFifo x q).mem = y.mem := by cases x <;> rfl

theorem Sys.evalKeypad_mem (y : Sys) : y.evalKeypad.mem = y.mem := by
  unfold Sys.evalKeypad
  split <;> rfl

theorem Sys.writeTimerControl_mem (y : Sys) (i : Fin 4) (new : Half) : (y.writeTimerControl i new).mem = y.mem := by
  unfold Sys.writeTimerControl
  dsimp only
  split <;> rfl

theorem Sys.writeDmaCntH_mem {y z : Sys} {c : Fin 4} {new : Half} (h : y.writeDmaCntH c new = .ok z) : z.mem = y.mem := by
  unfold Sys.writeDmaCntH at h
  dsimp only at h
  split at h
  · split at h
    · cases h; rfl
    · split at h <;> cases h; rfl
    · cases h; rfl
    · cases h; rfl
  · split at h <;> cases h <;> rfl

theorem Sys.writePostHalt_mem {y z : Sys} {value lanes : Half} (h : y.writePostHalt value lanes = .ok z) :
    z.mem = y.mem := by
  unfold Sys.writePostHalt at h
  dsimp only at h
  split at h
  · split at h
    · cases h
    · cases h; split <;> rfl
  · cases h; split <;> rfl

/-- An I/O register is no byte of memory (20_memory.md R125, R127). -/
theorem Sys.ioWrite16_mem {y z : Sys} {r : IoReg} {value lanes : Half} (h : y.ioWrite16 r value lanes = .ok z) :
    z.mem = y.mem := by
  cases r
  case soundcntH => cases h; exact y.writeSoundcntH_mem _ _
  case fifo => cases h; exact y.setFifo_mem _ _
  case keycnt => cases h; exact Sys.evalKeypad_mem _
  case tmCntH => cases h; exact y.writeTimerControl_mem _ _
  case dmaCntH => exact Sys.writeDmaCntH_mem h
  case postflgHaltcnt => exact Sys.writePostHalt_mem h
  all_goals cases h; rfl

theorem Sys.ioWrite_mem {y z : Sys} {w : Width} {o : Nat} {v : Word} (h : y.ioWrite w o v = .ok z) : z.mem = y.mem := by
  cases w with
  | byte => exact Sys.ioWrite16_mem h
  | half => exact Sys.ioWrite16_mem h
  | word =>
    simp only [Sys.ioWrite] at h
    split at h
    next y' hy => exact (Sys.ioWrite16_mem h).trans (Sys.ioWrite16_mem hy)
    next => cases h

/-! ### The bus -/

/-- A store that completes leaves every byte it does not reach (20_memory.md R107). -/
theorem Sys.memWrite_other {y z : Sys} {w : Width} {addr v : Word} {k : Nat} (h : y.memWrite w addr v = .ok z)
    (hk : y.storeTouches w addr k = false) : Memory.read z.mem k = Memory.read y.mem k := by
  unfold Sys.memWrite at h
  unfold Sys.storeTouches at hk
  dsimp only at h hk
  cases hr : Region.of (w.align addr) <;> simp only [hr] at h hk
  case io =>
    split at h
    · rw [Sys.ioWrite_mem h]
    · cases h; rfl
  case bios | unmapped => cases h; rfl
  case ewram | iwram => cases h; exact read_writeLE_of_not_within hk
  case palette => cases h; exact pramWrite_other hk
  case vram => cases h; exact vramWrite_other hk
  case oam => cases h; exact oamWrite_other hk
  case rom => cases h; exact Sys.romWrite_other v hk
  case backup =>
    cases h
    refine Sys.backupWrite_other _ (fun hb => ?_) (fun hb => ?_)
    · simpa [hb] using hk
    · cases hf : y.params.backup <;> simp only [hf] at hb hk
      case flash64k | flash128k => exact hk
      all_goals cases hb

/-- Only a store to the I/O region can fault (20_memory.md R107). -/
theorem Sys.memWrite_completes (y : Sys) {w : Width} {addr : Word} (v : Word) (h : Region.of (w.align addr) ≠ .io) :
    ∃ z, y.memWrite w addr v = .ok z := by
  unfold Sys.memWrite
  dsimp only
  generalize Region.of (w.align addr) = r at h ⊢
  cases r with
  | io => exact absurd rfl h
  | bios | ewram | iwram | palette | vram | oam | rom | backup | unmapped => exact ⟨_, rfl⟩

/-- The two RAM regions, by name. -/
theorem RamAt.of_region {a : Word} (h : Region.of a = .ewram ∨ Region.of a = .iwram) :
    ∃ base, RamAt a base (if Region.of a = .ewram then 0x40000 else 0x8000) := by
  rcases h with h | h
  · exact ⟨_, .inl ⟨h, rfl, by simp [h]⟩⟩
  · exact ⟨_, .inr ⟨h, rfl, by simp [h]⟩⟩

/-- Addresses that mirror each other are aligned to addresses that do (20_memory.md R109). -/
theorem RamAt.align_mirror {a b : Word} {base size : Nat} (h : RamAt a base size) (hb : b.toNat % size = a.toNat % size)
    (w : Width) : b.toNat / w.bytes * w.bytes % size = a.toNat / w.bytes * w.bytes % size := by
  rcases h with ⟨-, -, rfl⟩ | ⟨-, -, rfl⟩ <;> cases w <;> simp only [Width.bytes] <;> omega

/-- A store to RAM is read back through every mirror (20_memory.md R101, R109). -/
theorem RamAt.memRead_written {a b : Word} {base size : Nat} (ha : RamAt a base size) (hr : Region.of b = Region.of a)
    (hb : b.toNat % size = a.toNat % size) (y : Sys) (w : Width) (v : Word) :
    ((y.withMem (Memory.writeLE y.mem w (base + a.toNat / w.bytes * w.bytes % size) v)).memRead w b).1 =
      match w with
      | .byte => v &&& 0xFF#32
      | .half => v &&& 0xFFFF#32
      | .word => v := by
  have hb' : RamAt b base size := by unfold RamAt; rw [hr]; exact ha
  rw [hb'.memRead, ha.align_mirror hb]
  exact Memory.readLE_writeLE_same ..

/-- Settles O26: in RAM the store is one write of its width at the aligned address, which a read of the width gives back;
outside I/O it completes and leaves the bytes it does not reach. -/
theorem storeThenLoad : Obligations.StoreThenLoad := by
  refine ⟨fun y w a v hr => ?ram, fun y w a v hr => ?other⟩
  case ram =>
    obtain ⟨base, ha⟩ := RamAt.of_region hr
    have hz := ha.memWrite y w v
    refine ⟨_, hz, fun b hrb hb => ?_, fun k hk => Sys.memWrite_other hz hk, rfl⟩
    cases w <;> exact ha.memRead_written hrb hb y _ v
  case other =>
    obtain ⟨z, hz⟩ := y.memWrite_completes v hr
    exact ⟨z, hz, fun k hk => Sys.memWrite_other hz hk⟩

end Sys2Proof.Machine
end

section
/-! PROOFS. O43 and O44 (spec/20_memory.md R107, R162 and the rules of every store): what an instruction does outside the CPU:
reads and fetches, which change latches and the EEPROM's read-out only, and the stores of the table `Instr.stores`. -/

namespace Sys2Proof.Machine

open Sys2Proof

/-! ## Reads and fetches (20_memory.md R120, R162) -/

/-- `z` is `y` but for the fetch latches, the BIOS latch, a cost charged, the EEPROM's read-out and the state of a supplied
device. -/
def ReadsOnly (y z : Sys) : Prop :=
  ∃ (last addr bios : Word) (n : Nat) (out : List Bool) (dev : List Byte),
    z = { y with
      lastFetch := last, lastFetchAddr := addr, biosLatch := bios, cost := y.cost + n,
      eeprom := { y.eeprom with out := out }, device := dev }

theorem ReadsOnly.refl (y : Sys) : ReadsOnly y y := ⟨_, _, _, 0, _, _, rfl⟩

theorem ReadsOnly.trans {x y z : Sys} (h : ReadsOnly x y) (g : ReadsOnly y z) : ReadsOnly x z := by
  obtain ⟨_, _, _, n, _, _, rfl⟩ := h
  obtain ⟨last, addr, bios, m, out, dev, rfl⟩ := g
  exact ⟨last, addr, bios, n + m, out, dev, by simp only [Nat.add_assoc]⟩

theorem ReadsOnly.charge (y : Sys) (n : Nat) : ReadsOnly y (y.charge n) := ⟨_, _, _, n, _, _, rfl⟩

theorem ReadsOnly.load (y : Sys) (kind : Access) (w : Width) (a : Word) : ReadsOnly y (y.load kind w a).2 :=
  (ReadsOnly.charge y _).trans ⟨_, _, _, 0, _, _, Sys.memRead_eq _ w a⟩

theorem ReadsOnly.fetch (y : Sys) (kind : Access) (thumb : Bool) (a : Word) : ReadsOnly y (y.fetch kind thumb a).2 :=
  (ReadsOnly.charge y _).trans ⟨_, _, _, 0, _, _, Sys.memFetch_eq _ thumb a⟩

theorem ReadsOnly.loadBlock (l : List RegNum) (kind : Access) (a : Word) (y : Sys) :
    ReadsOnly y (y.loadBlock kind a l).2 := by
  induction l generalizing kind a y with
  | nil => exact .refl y
  | cons r l ih => exact (ReadsOnly.load y kind .word a).trans (ih _ _ _)

/-! ## The bytes a store reaches -/

/-- The bytes a store can reach depend on the parameters, and for a byte on the display mode (20_memory.md R111). -/
theorem Sys.storeTouches_congr {y z : Sys} {w : Width} (a : Word) (k : Nat) (hp : z.params = y.params)
    (hd : w = .byte → z.ppu.dispcnt = y.ppu.dispcnt) : z.storeTouches w a k = y.storeTouches w a k := by
  unfold Sys.storeTouches Sys.inEepromWindow
  rw [hp]
  by_cases hw : w = .byte
  · rw [hd hw]
  · simp only [if_neg hw]

/-! ## Accesses of an instruction -/

/-- The system of `t` is reached from `y` by reads and by stores of `l`: the bytes those do not reach are left, and without
a store nothing but what reads change. -/
structure Accesses (y : Sys) (l : List (Width × Word)) (t : State) : Prop where
  params : t.sys.params = y.params
  memory : ∀ k, (∀ x ∈ l, y.storeTouches x.1 x.2 k = false) → Memory.read t.sys.mem k = Memory.read y.mem k
  quiet  : l = [] → ReadsOnly y t.sys

theorem Accesses.refl (l : List (Width × Word)) (s : State) : Accesses s.sys l s :=
  ⟨rfl, fun _ _ => rfl, fun _ => .refl _⟩

section
variable {y : Sys} {l : List (Width × Word)} {s t : State}

theorem Accesses.reads (h : Accesses y l s) (r : ReadsOnly s.sys t.sys) : Accesses y l t := by
  have quiet (hl : l = []) := (h.quiet hl).trans r
  obtain ⟨_, _, _, _, _, _, e⟩ := r
  exact ⟨by rw [e]; exact h.params, fun k hk => by rw [e]; exact h.memory k hk, quiet⟩

/-- A listed store. -/
theorem Accesses.stored {kind : Access} {w : Width} {a v : Word} {z : Sys} (h : Accesses y l s) (hl : (w, a) ∈ l)
    (hd : w = .byte → s.sys.ppu.dispcnt = y.ppu.dispcnt) (e : s.sys.store kind w a v = .ok z) :
    Accesses y l (s.withSys z) where
  params := (SysStep.memWrite _ w a v z e).params.trans h.params
  memory k hk := (Sys.memWrite_other e ((Sys.storeTouches_congr a k h.params hd).trans (hk _ hl))).trans (h.memory k hk)
  quiet hn := by rw [hn] at hl; cases hl

theorem Accesses.congr (h : Accesses y l s) (e : t.sys = s.sys) : Accesses y l t := h.reads (e ▸ .refl _)

theorem Accesses.advance (h : Accesses y l s) : Accesses y l s.advance := h.congr rfl

theorem Accesses.setReg {r : RegNum} {v : Word} (h : Accesses y l s) : Accesses y l (s.setReg r v) := h.congr rfl

theorem Accesses.setCpsr {p : Psr} (h : Accesses y l s) : Accesses y l (s.setCpsr p) := h.congr rfl

theorem Accesses.internal {n : Nat} (h : Accesses y l s) : Accesses y l (s.internal n) := h.reads (.charge _ n)

theorem Accesses.ite {c : Prop} [Decidable c] (h : Accesses y l s) (h' : Accesses y l t) :
    Accesses y l (if c then s else t) := by
  split
  · exact h
  · exact h'

theorem Accesses.branch {a : Word} (h : Accesses y l s) : Accesses y l (s.branch a) :=
  h.reads ((ReadsOnly.fetch s.sys .nonseq _ _).trans (.fetch _ .seq _ _))

theorem Accesses.finish {rd : RegNum} {v : Word} (h : Accesses y l s) : Accesses y l (s.finish rd v) :=
  h.branch.ite h.setReg.advance

theorem Accesses.exchange {a : Word} (h : Accesses y l s) : Accesses y l (s.exchange a) := h.setCpsr.branch

theorem Accesses.enterException {x : Exception} {ret : Word} (h : Accesses y l s) :
    Accesses y l (s.enterException x ret) := by
  unfold State.enterException
  exact Accesses.branch (h.congr rfl)

theorem Accesses.restoreBranch {a : Word} (h : Accesses y l s) :
    Holds (Accesses y l) (orFault s.restoreCpsr fun u => .next (u.branch a)) := by
  refine .orFault fun u hu => .next (Accesses.branch (h.congr ?_))
  unfold State.restoreCpsr at hu
  split at hu <;> split at hu <;> cases hu <;> rfl

theorem Accesses.writeBack {wb : Bool} {rn : RegNum} {v : Word} (h : Accesses y l s) :
    Accesses y l (s.writeBack wb rn v) := h.setReg.ite h

theorem Accesses.loadValue {k : LoadKind} {a : Word} (h : Accesses y l s) : Accesses y l (s.loadValue k a).2 :=
  h.reads (.load s.sys .nonseq (k.width a) a)

theorem Accesses.loadReg {k : LoadKind} {a : Word} {wb : Bool} {rn : RegNum} {moved : Word} {rd : RegNum}
    (h : Accesses y l s) : Accesses y l (s.loadReg k a wb rn moved rd) := h.loadValue.writeBack.internal.finish

theorem storeReg_accesses {w : Width} {a v : Word} {wb : Bool} {rn : RegNum} {moved : Word} :
    Holds (Accesses s.sys [(w, a)]) (s.storeReg w a v wb rn moved) :=
  .orFault fun _ e =>
    .next ((Accesses.refl _ s).stored (List.mem_singleton_self _) (fun _ => rfl) e).writeBack.advance

/-! ### Block transfers (43_arm_loadstore.md R367) -/

theorem mem_blockStores {plan : BlockPlan} {k : Nat} (h : k < plan.regs.length) :
    (Width.word, plan.start + BitVec.ofNat 32 (4 * k)) ∈ blockStores plan :=
  List.mem_map_of_mem (List.mem_range.2 h)

/-- The places of a block from its second word on. -/
theorem blockPlace_succ (a : Word) (k : Nat) :
    a + 4#32 + BitVec.ofNat 32 (4 * k) = a + BitVec.ofNat 32 (4 * (k + 1)) := by
  rw [BitVec.add_assoc, Nat.mul_succ, Nat.add_comm (4 * k), BitVec.ofNat_add]

/-- The words of a block from an address on. -/
theorem Accesses.storeBlock {b : Bank} {kind : Access} {a : Word} {rs : List RegNum} (h : Accesses y l s)
    (hl : ∀ k, k < rs.length → (Width.word, a + BitVec.ofNat 32 (4 * k)) ∈ l) (e : s.storeBlock b kind a rs = .ok t) :
    Accesses y l t := by
  induction rs generalizing kind a s with
  | nil => cases e; exact h
  | cons r rs ih =>
    simp only [State.storeBlock] at e
    split at e
    next z hz =>
      have first : (Width.word, a) ∈ l := by simpa using hl 0 (Nat.succ_pos _)
      exact ih (h.stored first (fun hw => nomatch hw) hz)
        (fun k hk => blockPlace_succ a k ▸ hl (k + 1) (Nat.succ_lt_succ hk)) e
    next => cases e

theorem storeMultiple_accesses {b : Bank} {plan : BlockPlan} {wb : Bool} {rn : RegNum} :
    Holds (Accesses s.sys (blockStores plan)) (s.storeMultiple b plan wb rn) := by
  have h0 := Accesses.refl (blockStores plan) s
  have listed (k : Nat) (hk : k < plan.regs.length) := mem_blockStores hk
  unfold State.storeMultiple
  split
  next => exact .next h0.advance
  next r rest hr =>
    rw [hr] at listed
    refine .orFault fun u hu => .orFault fun v hv => .next (Accesses.advance ?_)
    have first : Accesses s.sys (blockStores plan) u :=
      h0.storeBlock (fun k hk => listed k (hk.trans_le (by simp))) hu
    exact first.writeBack.storeBlock
      (fun k hk => blockPlace_succ plan.start k ▸ listed (k + 1) (Nat.succ_lt_succ hk)) hv

theorem Accesses.loadMultiple {b : Bank} {plan : BlockPlan} {wb : Bool} {rn : RegNum} {restore : Bool}
    (h : Accesses y l s) : Holds (Accesses y l) (s.loadMultiple b plan wb rn restore) := by
  have based := (h.reads (t := s.withSys _) (.loadBlock plan.regs .nonseq plan.start s.sys)).writeBack
    (wb := wb) (rn := rn) (v := plan.moved)
  have loaded := (based.congr (State.writeLoaded_rest b (s.sys.loadBlock .nonseq plan.start plan.regs).1 _).1).internal
    (n := 1)
  unfold State.loadMultiple
  dsimp only
  split
  · exact .next loaded.advance
  · exact .ite (fun _ => loaded.restoreBranch) (fun _ => .next loaded.branch)

/-! ### The families -/

theorem accesses_whenPassed {c : Cond} {k : State → Result} (h : Holds (Accesses s.sys l) (k s)) :
    Holds (Accesses s.sys l) (s.whenPassed c k) := .whenPassed (fun _ => h) (fun _ => (Accesses.refl l s).advance)

theorem accesses_passedNext {c : Cond} {f : State → State} (h : Accesses s.sys l (f s)) :
    Holds (Accesses s.sys l) (s.whenPassed c fun t => .next (f t)) :=
  accesses_whenPassed (k := fun t => .next (f t)) (.next h)

theorem Accesses.dataProcessing {op : DpOp} {w : Bool} {rd : RegNum} {a b : Word} {sc : Bool} (h : Accesses y l s) :
    Holds (Accesses y l) (dataProcessing op w rd a b sc s) := by
  unfold Sys2Proof.Machine.dataProcessing
  have written (v : Word) : Accesses y l (if dpWritesRd op = true then s.setReg rd v else s) := h.setReg.ite h
  exact .ite (fun _ => .ite (fun _ => h.restoreBranch) (fun _ => .next h.branch))
    (fun _ => .next ((written _).setCpsr.ite (written _)).advance)

theorem Accesses.dpShiftImmediate {op : DpOp} {w : Bool} {rn rd : RegNum} {n : BitVec 5} {k : ShiftKind} {rm : RegNum}
    (h : Accesses y l s) : Holds (Accesses y l) (dpShiftImmediate op w rn rd n k rm s) := h.dataProcessing

theorem Accesses.dpImmediate {op : DpOp} {w : Bool} {rn rd : RegNum} {r : BitVec 4} {v : BitVec 8}
    (h : Accesses y l s) : Holds (Accesses y l) (dpImmediate op w rn rd r v s) := h.dataProcessing

theorem Accesses.dpShiftRegister {op : DpOp} {w : Bool} {rn rd rs : RegNum} {k : ShiftKind} {rm : RegNum}
    (h : Accesses y l s) : Holds (Accesses y l) (dpShiftRegister op w rn rd rs k rm s) :=
  .unpredictable (.unpredictable h.internal.dataProcessing)

theorem Accesses.multiply {w : Bool} {rd rs rm : RegNum} {addend : Word} {extra : Nat} (h : Accesses y l s) :
    Holds (Accesses y l) (multiply w rd rs rm addend extra s) := .next (h.internal.setCpsr.ite h.internal).finish

theorem Accesses.multiplyShort {w : Bool} {rd rs rm : RegNum} {acc : Option RegNum} (h : Accesses y l s) :
    Holds (Accesses y l) (multiplyShort w rd rs rm acc s) := by
  refine .unpredictable (.unpredictable ?_)
  cases acc <;> exact h.multiply

theorem Accesses.finishLong {rdHi rdLo : RegNum} {hi lo : Word} (h : Accesses y l s) :
    Accesses y l (s.finishLong rdHi rdLo hi lo) :=
  h.setReg.setReg.branch.ite (h.setReg.setReg.branch.ite h.setReg.setReg.advance)

theorem Accesses.multiplyLong {signed acc w : Bool} {rdHi rdLo rs rm : RegNum} (h : Accesses y l s) :
    Holds (Accesses y l) (multiplyLong signed acc w rdHi rdLo rs rm s) :=
  .unpredictable (.unpredictable (.unpredictable (.next (h.internal.setCpsr.ite h.internal).finishLong)))

theorem Accesses.writePsr {r : Bool} {mask : BitVec 4} {v : Word} (h : Accesses y l s) :
    Holds (Accesses y l) (writePsr r mask v s) := by
  unfold Sys2Proof.Machine.writePsr
  refine .ite (fun _ => ?spsr) (fun _ => ?cpsr)
  case spsr =>
    unfold writeSpsr
    split
    · exact .unpredictable (.next h.advance)
    · exact .next (h.congr rfl)
  case cpsr =>
    exact .ite (fun _ => .ite (fun _ => .fault _ _) (fun _ => .unpredictable (.next h.setCpsr.advance)))
      (fun _ => .next h.setCpsr.advance)

theorem Accesses.readPsr {r : Bool} {rd : RegNum} (h : Accesses y l s) : Holds (Accesses y l) (readPsr r rd s) := by
  refine .unpredictable (.ite (fun _ => ?_) (fun _ => .next h.finish))
  split
  · exact .next h.finish
  · exact .unpredictable (.next h.finish)

theorem Accesses.loadTransfer {k : LoadKind} {x : Indexing} {rn rd : RegNum} {offset : Word} (h : Accesses y l s) :
    Holds (Accesses y l) (loadTransfer k x rn rd offset s) :=
  .unpredictable (.unpredictable (.unpredictableCase (.next h.loadReg)))

theorem storeTransfer_accesses {w : Width} {x : Indexing} {rn rd : RegNum} {offset : Word} :
    Holds (Accesses s.sys [(w, transferAddress x (s.reg rn) offset)]) (storeTransfer w x rn rd offset s) :=
  .unpredictable (.unpredictableCase storeReg_accesses)

/-- A swap stores where it loaded (43_arm_loadstore.md R372). -/
theorem swap_accesses {k : LoadKind} {w : Width} {rn rd rm : RegNum} :
    Holds (Accesses s.sys [(w, s.reg rn)]) (swap k w rn rd rm s) := by
  refine .unpredictable (.unpredictable (.orFault fun z e => .next (Accesses.internal ?_).finish))
  refine (Accesses.refl _ s).loadValue.stored (List.mem_singleton_self _) (fun _ => ?_) e
  obtain ⟨_, _, _, _, _, _, hr⟩ := ReadsOnly.load s.sys .nonseq (k.width (s.reg rn)) (s.reg rn)
  exact congrArg (·.ppu.dispcnt) hr

theorem stm_accesses {p u w : Bool} {rn : RegNum} {list : BitVec 16} :
    Holds (Accesses s.sys (blockStores (blockPlan p u (s.reg rn) list))) (blockTransfer false p u w rn list s) :=
  .unpredictable storeMultiple_accesses

theorem stmS_accesses {p u w : Bool} {rn : RegNum} {list : BitVec 16} :
    Holds (Accesses s.sys (blockStores (blockPlan p u (s.reg rn) list))) (blockTransferS false p u w rn list s) :=
  .unpredictable (.ite (fun _ => stm_accesses) (fun _ => .unpredictable (.unpredictable storeMultiple_accesses)))

theorem Accesses.ldm {p u w : Bool} {rn : RegNum} {list : BitVec 16} (h : Accesses y l s) :
    Holds (Accesses y l) (blockTransfer true p u w rn list s) := .unpredictable h.loadMultiple

theorem Accesses.ldmS {p u w : Bool} {rn : RegNum} {list : BitVec 16} (h : Accesses y l s) :
    Holds (Accesses y l) (blockTransferS true p u w rn list s) :=
  .unpredictable (.ite (fun _ => h.ldm) (fun _ => .unpredictable (.ite (fun _ => h.loadMultiple)
    (fun _ => .unpredictable h.loadMultiple))))

theorem Accesses.thumbAlu {op : DpOp} {rd : LowReg} {a b : Word} {sc : Bool} (h : Accesses y l s) :
    Holds (Accesses y l) (thumbAlu op rd a b sc s) := .next (h.setReg.ite h).setCpsr.advance

end

/-- Every instruction does reads and the stores of its table, and nothing else outside the CPU. -/
theorem exec_accesses (i : Instr) (s : State) : Holds (Accesses s.sys (i.stores s)) (exec i s) := by
  have h0 {l : List (Width × Word)} : Accesses s.sys l s := Accesses.refl l s
  cases i
  case andShi | eorShi | subShi | rsbShi | addShi | adcShi | sbcShi | rscShi | tstShi | teqShi | cmpShi | cmnShi | orrShi |
      movShi | bicShi | mvnShi =>
    exact accesses_whenPassed h0.dpShiftImmediate
  case andImm | eorImm | subImm | rsbImm | addImm | adcImm | sbcImm | rscImm | tstImm | teqImm | cmpImm | cmnImm | orrImm |
      movImm | bicImm | mvnImm =>
    exact accesses_whenPassed h0.dpImmediate
  case andShr | eorShr | subShr | rsbShr | addShr | adcShr | sbcShr | rscShr | tstShr | teqShr | cmpShr | cmnShr | orrShr |
      movShr | bicShr | mvnShr =>
    exact accesses_whenPassed h0.dpShiftRegister
  case mul | mla => exact accesses_whenPassed h0.multiplyShort
  case umull | umlal | smull | smlal => exact accesses_whenPassed h0.multiplyLong
  case mrs => exact accesses_whenPassed h0.readPsr
  case msrReg => exact accesses_whenPassed (.unpredictable h0.writePsr)
  case msrImm => exact accesses_whenPassed h0.writePsr
  case ldrImmPre | ldrImmPost | ldrtImm | ldrbImmPre | ldrbImmPost | ldrbtImm =>
    exact accesses_whenPassed h0.loadTransfer
  case ldrRegPre | ldrRegPost | ldrtReg | ldrbRegPre | ldrbRegPost | ldrbtReg | ldrhImm | ldrsbImm | ldrshImm =>
    exact accesses_whenPassed (.unpredictable h0.loadTransfer)
  case ldrhReg | ldrsbReg | ldrshReg => exact accesses_whenPassed (.unpredictable (.unpredictable h0.loadTransfer))
  case strImmPre | strImmPost | strtImm | strbImmPre | strbImmPost | strbtImm =>
    exact accesses_whenPassed storeTransfer_accesses
  case strRegPre | strRegPost | strtReg | strbRegPre | strbRegPost | strbtReg | strhImm =>
    exact accesses_whenPassed (.unpredictable storeTransfer_accesses)
  case strhReg => exact accesses_whenPassed (.unpredictable (.unpredictable storeTransfer_accesses))
  case swp | swpb => exact accesses_whenPassed swap_accesses
  case stm => exact accesses_whenPassed stm_accesses
  case ldm => exact accesses_whenPassed h0.ldm
  case stmS => exact accesses_whenPassed stmS_accesses
  case ldmS => exact accesses_whenPassed h0.ldmS
  case b | tBcond0xxx | tBcond10xx | tBcond110x => exact accesses_passedNext h0.branch
  case bl =>
    dsimp only [exec, execBl]
    exact accesses_passedNext h0.setReg.branch
  case bx => exact accesses_passedNext h0.exchange
  case swi => exact accesses_passedNext h0.enterException
  case ldcStc | cdp | mrcMcr | undefMul00001 | undefMul00011 | undefSwpX1 | undefSwp10 | undefLdrdStrd | undefMiscBx00 |
      undefMiscBx10 | undefMiscBx11 | undefMisc01xx | undefMisc001x | undefMisc1xx0 | undefMovStatus | undefMedia =>
    exact accesses_passedNext h0.internal.enterException
  case tLslImm | tLsrImm | tAsrImm | tAddReg | tSubReg | tAddImm3 | tSubImm3 | tMovImm8 | tCmpImm8 | tAddImm8 | tSubImm8 |
      tAnd | tEor | tAdc | tSbc | tTst | tNeg | tCmpReg | tCmn | tOrr | tBic | tMvn =>
    exact h0.thumbAlu
  case tLslReg | tLsrReg | tAsrReg | tRorReg => exact h0.internal.thumbAlu
  case tMul => exact h0.multiply
  case tAddHi | tMovHi => exact .unpredictable (.next h0.finish)
  case tCmpHi => exact .unpredictable (.next h0.setCpsr.advance)
  case tBx => exact .unpredictable (.next h0.exchange)
  case tLdrPc | tLdrReg | tLdrbReg | tLdsbReg | tLdrhReg | tLdshReg | tLdrImm | tLdrbImm | tLdrhImm | tLdrSp =>
    exact .next h0.loadReg
  case tStrReg | tStrbReg | tStrhReg | tStrImm | tStrbImm | tStrhImm | tStrSp => exact storeReg_accesses
  case tAddPc | tAddSp | tAddSpImm | tBlPrefix => exact .next h0.finish
  case tPush | tStmia => exact storeMultiple_accesses
  case tPop | tLdmia => exact h0.loadMultiple
  case tSwi => exact .next h0.enterException
  case tB => exact .next h0.branch
  case tBlSuffix => exact .next h0.setReg.branch
  case tUndef10110001 | tUndef1011001x | tUndef1011011x | tUndef101110xx | tUndef1011111x | tUndef11011110 |
      tUndef11101 =>
    exact .next h0.internal.enterException

/-- Settles O43: the bytes of the accesses of every instruction. -/
theorem memoryFrame : Obligations.MemoryFrame := fun i s t h => (exec_accesses i s t h).memory

/-- Settles O44: without a store the accesses of an instruction are reads. -/
theorem readsHaveNoEffect : Obligations.ReadsHaveNoEffect := by
  intro i s t h hi
  obtain ⟨last, addr, bios, n, out, dev, e⟩ := (exec_accesses i s t h).quiet hi
  rw [e]
  exact ⟨Nat.le_add_right _ _, rfl⟩

end Sys2Proof.Machine
end

section
/-! PROOFS. O1, O2, O6 (spec/30_encoding.md R209, R217): the decoder gives an instruction back from the bytes of its code,
and from a code with other values in its should-be-zero and should-be-one fields. -/

namespace Sys2Proof

/-- Settles O1: the four bytes join to the word, whose decoding is `decodeArm_encode`. -/
theorem decodeEncodeArm : Obligations.DecodeEncodeArm := by
  intro i w rest hi he
  rw [he, decode_armBytes, decodeArm_encode hi he]

/-- Settles O2: the two bytes join to the halfword, whose decoding is `decodeThumb_encode`. -/
theorem decodeEncodeThumb : Obligations.DecodeEncodeThumb := by
  intro i h rest hi he
  rw [he, decode_thumbBytes, decodeThumb_encode hi he]

/-! ## Data processing with the bits 27:20 as one field

`v` holds them for TST, TEQ, CMP and CMN, whose `S` is 1; `k` stands where `Rd` does in the other operations. -/

section
variable (c : Cond) (v : BitVec 8) (n k r rs m : RegNum) (o : BitVec 5) (t : ShiftKind) (x : Byte)
  (h27 : bitAt v 7 = false) (h26 : bitAt v 6 = false) (hs : bitAt v 0 = true)
include h27 h26 hs

theorem decodeArm_testShi_word (h25 : bitAt v 5 = false) :
    decodeArm (c.bits ++ v ++ n ++ k ++ o ++ t.bits ++ 0#1 ++ m : Word) =
      .dpShi (DpOp.ofBits (field v 1 4)) c true n k o t m := by
  simp (disch := decide) only [decodeArm, decodeArmDpReg, h27, h26, h25, hs, field_append_lo, field_append_hi,
    bitAt_append_lo, bitAt_append_hi, Nat.reduceSub, field_all, bitAt_ofNat, BitVec.reduceGetLsb, Bool.false_eq_true,
    ↓reduceIte, Cond.ofBits_bits, ShiftKind.ofBits_bits, Bool.and_false, Bool.not_true]

theorem decodeArm_testShr_word (h25 : bitAt v 5 = false) :
    decodeArm (c.bits ++ v ++ n ++ k ++ rs ++ 0#1 ++ t.bits ++ 1#1 ++ m : Word) =
      .dpShr (DpOp.ofBits (field v 1 4)) c true n k rs t m := by
  simp (disch := decide) only [decodeArm, decodeArmDpReg, h27, h26, h25, hs, field_append_lo, field_append_hi,
    bitAt_append_lo, bitAt_append_hi, Nat.reduceSub, field_all, bitAt_ofNat, BitVec.reduceGetLsb, Bool.false_eq_true,
    ↓reduceIte, Cond.ofBits_bits, ShiftKind.ofBits_bits, Bool.and_false, Bool.false_and, Bool.not_true]

theorem decodeArm_testImm_word (h25 : bitAt v 5 = true) :
    decodeArm (c.bits ++ v ++ n ++ k ++ r ++ x : Word) = .dpImm (DpOp.ofBits (field v 1 4)) c true n k r x := by
  simp (disch := decide) only [decodeArm, decodeArmImm, h27, h26, h25, hs, field_append_lo, field_append_hi,
    bitAt_append_lo, bitAt_append_hi, Nat.reduceSub, field_all, Bool.false_eq_true, ↓reduceIte, Cond.ofBits_bits,
    Bool.and_false, Bool.not_true]

end

/-- Settles O6: no bit the decoder tests and no field it reads lies in a should-be-zero or should-be-one field. -/
theorem ignoredFields : Obligations.IgnoredFields := by
  refine ⟨fun c n k o t m => ?shi, fun c n k o t m => ?shr, fun c n k r v => ?imm, fun c s d k r m => ?mulSwp,
    fun c s d k m j l => ?psrBx, fun c p u w n d k m => ?half⟩
  case shi =>
    refine ⟨?_, ?_, ?_, ?_, fun s => ⟨?mov, ?mvn⟩⟩
    case mov | mvn => exact decodeArm_dpShi_word _ _ _ _ _ _ _ _ rfl rfl rfl rfl
    all_goals exact decodeArm_testShi_word _ _ _ _ _ _ _ rfl rfl rfl rfl
  case shr =>
    refine ⟨?_, ?_, ?_, ?_, fun s => ⟨?mov, ?mvn⟩⟩
    case mov | mvn => exact decodeArm_dpShr_word _ _ _ _ _ _ _ _ rfl rfl rfl rfl
    all_goals exact decodeArm_testShr_word _ _ _ _ _ _ _ rfl rfl rfl rfl
  case imm =>
    refine ⟨?_, ?_, ?_, ?_, fun s => ⟨?mov, ?mvn, ?msr⟩⟩
    case mov | mvn => exact decodeArm_dpImm_word _ _ _ _ _ _ _ rfl rfl rfl rfl
    case msr =>
      simp (disch := decide) only [decodeArm, decodeArmImm, field_append_lo, field_append_hi, bitAt_append_lo,
        bitAt_append_hi, Nat.reduceSub, field_all, bitAt_ofBool, bitAt_ofNat, BitVec.reduceGetLsb, ↓reduceIte,
        Cond.ofBits_bits, Bool.and_true, Bool.not_false]
    all_goals exact decodeArm_testImm_word _ _ _ _ _ _ rfl rfl rfl rfl
  case mulSwp | psrBx | half =>
    simp (disch := decide) only [decodeArm, decodeArmMulSwp, decodeArmMisc, decodeArmHalf, field_append_lo,
      field_append_hi, bitAt_append_lo, bitAt_append_hi, Nat.reduceSub, field_all, bitAt_ofBool, bitAt_ofNat,
      BitVec.reduceGetLsb, Bool.false_eq_true, ↓reduceIte, Cond.ofBits_bits, Bool.and_true, Bool.and_false,
      Bool.or_false, Bool.or_true, Bool.not_false, and_self]

end Sys2Proof
end

section
/-! PROOFS. O3, O4 (spec/30_encoding.md R207, R208, R212, R213, R217): every word and halfword decodes to a well-formed
instruction, and a halfword is the canonical code of what it decodes to. -/

namespace Sys2Proof

/-! ## A word put together from its bits and fields -/

theorem Cond.bits_ofBits (b : BitVec 4) : (Cond.ofBits b).bits = b := by revert b; decide

section
variable {n : Nat} {w : BitVec n}

theorem bitAt_field {lo len k : Nat} (h : k < len) : bitAt (field w lo len) k = bitAt w (lo + k) := by
  simp [bitAt, field, h]

theorem eq_field_of_bits {lo len : Nat} {p : BitVec len} (h : ∀ k < len, bitAt w (lo + k) = bitAt p k) :
    p = field w lo len :=
  BitVec.eq_of_getLsbD_eq fun k hk => (h k hk).symm.trans (bitAt_field hk).symm

/-- The field above is extended by the field it touches. -/
theorem append_field {len : Nat} {p : BitVec len} (lo b : Nat) (hp : p = field w (lo + b) len) :
    p ++ field w lo b = field w lo (len + b) := by
  subst hp
  refine eq_field_of_bits fun k hk => ?_
  by_cases hb : k < b
  · rw [bitAt_append_lo _ _ _ hb, bitAt_field hb]
  · rw [bitAt_append_hi _ _ _ (by omega), bitAt_field (by omega)]
    congr 1
    omega

/-- The field above is extended by the bit it touches. -/
theorem append_bit {len : Nat} {p : BitVec len} (lo : Nat) (hp : p = field w (lo + 1) len) :
    p ++ BitVec.ofBool (bitAt w lo) = field w lo (len + 1) := by
  have h : BitVec.ofBool (bitAt w lo) = field w lo 1 := eq_field_of_bits fun k hk => by
    rw [Nat.lt_one_iff.1 hk, bitAt_ofBool, Nat.add_zero]
  rw [h, append_field lo 1 hp]

/-- A word lies in a row if it has the row's pattern where the row's mask is set. -/
theorem inRow_of_bits {mask pattern : BitVec n} (hp : pattern &&& mask = pattern)
    (h : ∀ k < n, bitAt mask k = true → bitAt w k = bitAt pattern k) : inRow mask pattern w = true := by
  refine beq_iff_eq.2 (BitVec.eq_of_getLsbD_eq fun k hk => ?_)
  rw [← hp, BitVec.getLsbD_and, BitVec.getLsbD_and]
  cases hm : mask.getLsbD k
  · rw [Bool.and_false, Bool.and_false]
  · rw [Bool.and_true, Bool.and_true]
    exact h k hk hm

end

/-! ## THUMB halfwords -/

/-- The instruction is well formed and `h` is its canonical code. -/
def Instr.HasCode (i : Instr) (h : Half) : Prop := i.wellFormed = true ∧ encode i = .thumb h

theorem Instr.HasCode.of_fields {i : Instr} {h x : Half} (hw : i.wellFormed = true) (he : encode i = .thumb x)
    (hx : x = field h 0 16) : i.HasCode h :=
  ⟨hw, by rw [he, hx, field_all]⟩

section
variable {h : Half}

theorem decodeThumbShiftAdd_hasCode (h15 : bitAt h 15 = false) (h14 : bitAt h 14 = false) (h13 : bitAt h 13 = false) :
    (decodeThumbShiftAdd h).HasCode h := by
  unfold decodeThumbShiftAdd
  split
  case h_4 =>
    split
    all_goals
      refine .of_fields rfl rfl (append_field 0 3 (append_field 3 3 (append_field 6 3 (eq_field_of_bits ?_))))
      simp [↓Nat.forall_lt_succ_right, bitAt_ofNat, *]
  all_goals
    refine .of_fields rfl rfl (append_field 0 3 (append_field 3 3 (append_field 6 5 (eq_field_of_bits ?_))))
    simp [↓Nat.forall_lt_succ_right, bitAt_ofNat, *]

theorem decodeThumbImm8_hasCode (h15 : bitAt h 15 = false) (h14 : bitAt h 14 = false) (h13 : bitAt h 13 = true) :
    (decodeThumbImm8 h).HasCode h := by
  unfold decodeThumbImm8
  split
  all_goals
    refine .of_fields rfl rfl (append_field 0 8 (append_field 8 3 (eq_field_of_bits ?_)))
    simp [↓Nat.forall_lt_succ_right, bitAt_ofNat, *]

section
variable (h15 : bitAt h 15 = false) (h14 : bitAt h 14 = true) (h13 : bitAt h 13 = false)
include h15 h14 h13

theorem decodeThumbAlu_hasCode (h12 : bitAt h 12 = false) (h11 : bitAt h 11 = false) (h10 : bitAt h 10 = false) :
    (decodeThumbAlu h).HasCode h := by
  unfold decodeThumbAlu
  split
  all_goals
    refine .of_fields rfl rfl (append_field 0 3 (append_field 3 3 (eq_field_of_bits ?_)))
    simp [↓Nat.forall_lt_succ_right, bitAt_ofNat, *]

theorem decodeThumbHi_hasCode (h12 : bitAt h 12 = false) (h11 : bitAt h 11 = false) (h10 : bitAt h 10 = true) :
    (decodeThumbHi h).HasCode h := by
  unfold decodeThumbHi
  split
  all_goals
    refine .of_fields rfl rfl (append_field 0 3 (append_field 3 3 (append_bit 6 (append_bit 7 (eq_field_of_bits ?_)))))
    simp [↓Nat.forall_lt_succ_right, bitAt_ofNat, *]

theorem decodeThumbRegOffset_hasCode (h12 : bitAt h 12 = true) : (decodeThumbRegOffset h).HasCode h := by
  unfold decodeThumbRegOffset
  split
  all_goals
    refine .of_fields rfl rfl (append_field 0 3 (append_field 3 3 (append_field 6 3 (eq_field_of_bits ?_))))
    simp [↓Nat.forall_lt_succ_right, bitAt_ofNat, *]

end

theorem decodeThumbImmOffset_hasCode (h15 : bitAt h 15 = false) (h14 : bitAt h 14 = true) (h13 : bitAt h 13 = true) :
    (decodeThumbImmOffset h).HasCode h := by
  unfold decodeThumbImmOffset
  split
  all_goals
    refine .of_fields rfl rfl (append_field 0 3 (append_field 3 3 (append_field 6 5 (eq_field_of_bits ?_))))
    simp [↓Nat.forall_lt_succ_right, bitAt_ofNat, *]

theorem decodeThumbMisc_hasCode (h15 : bitAt h 15 = true) (h14 : bitAt h 14 = false) (h13 : bitAt h 13 = true)
    (h12 : bitAt h 12 = true) : (decodeThumbMisc h).HasCode h := by
  unfold decodeThumbMisc
  split
  case h_1 =>
    refine .of_fields rfl rfl (append_field 0 7 (append_bit 7 (eq_field_of_bits ?_)))
    simp [↓Nat.forall_lt_succ_right, bitAt_ofNat, *]
  case h_4 | h_7 =>
    refine .of_fields rfl rfl (append_field 0 8 (append_bit 8 (eq_field_of_bits ?_)))
    simp [↓Nat.forall_lt_succ_right, bitAt_ofNat, *]
  all_goals
    refine ⟨inRow_of_bits rfl ?_, rfl⟩
    simp [↓Nat.forall_lt_succ_right, bitAt_ofNat, *]

theorem decodeThumbBranch_hasCode (h15 : bitAt h 15 = true) (h14 : bitAt h 14 = true) (h13 : bitAt h 13 = false)
    (h12 : bitAt h 12 = true) : (decodeThumbBranch h).HasCode h := by
  unfold decodeThumbBranch
  split
  case h_1 | h_2 | h_3 =>
    refine .of_fields (inRow_of_bits rfl ?_) rfl ?_
    · simp [↓Nat.forall_lt_succ_right, bitAt_ofNat, Cond.bits_ofBits, bitAt_field, *]
    · rw [Cond.bits_ofBits]
      refine append_field 0 8 (append_field 8 4 (eq_field_of_bits ?_))
      simp [↓Nat.forall_lt_succ_right, bitAt_ofNat, *]
  case h_4 =>
    refine ⟨inRow_of_bits rfl ?_, rfl⟩
    simp [↓Nat.forall_lt_succ_right, bitAt_ofNat, *]
  case h_5 =>
    refine .of_fields rfl rfl (append_field 0 8 (eq_field_of_bits ?_))
    simp [↓Nat.forall_lt_succ_right, bitAt_ofNat, *]

end

/-- Every halfword decodes to a well-formed instruction whose canonical code it is: the tests of the decoder fix the bits
above the operands, and the operands are the rest. -/
theorem decodeThumb_hasCode (h : Half) : (decodeThumb h).HasCode h := by
  unfold decodeThumb
  split
  case h_1 h15 h14 h13 => exact decodeThumbShiftAdd_hasCode h15 h14 h13
  case h_2 h15 h14 h13 => exact decodeThumbImm8_hasCode h15 h14 h13
  case h_3 h15 h14 h13 =>
    cases h12 : bitAt h 12
    · cases h11 : bitAt h 11
      · cases h10 : bitAt h 10
        · exact decodeThumbAlu_hasCode h15 h14 h13 h12 h11 h10
        · exact decodeThumbHi_hasCode h15 h14 h13 h12 h11 h10
      · refine .of_fields rfl rfl (append_field 0 8 (append_field 8 3 (eq_field_of_bits ?_)))
        simp [↓Nat.forall_lt_succ_right, bitAt_ofNat, *]
    · exact decodeThumbRegOffset_hasCode h15 h14 h13 h12
  case h_4 h15 h14 h13 => exact decodeThumbImmOffset_hasCode h15 h14 h13
  case h_5 =>
    split
    case h_1 | h_2 =>
      refine .of_fields rfl rfl (append_field 0 3 (append_field 3 3 (append_field 6 5 (eq_field_of_bits ?_))))
      simp [↓Nat.forall_lt_succ_right, bitAt_ofNat, *]
    case h_3 | h_4 =>
      refine .of_fields rfl rfl (append_field 0 8 (append_field 8 3 (eq_field_of_bits ?_)))
      simp [↓Nat.forall_lt_succ_right, bitAt_ofNat, *]
  case h_6 h15 h14 h13 =>
    cases h12 : bitAt h 12
    · cases h11 : bitAt h 11
      all_goals
        refine .of_fields rfl rfl (append_field 0 8 (append_field 8 3 (eq_field_of_bits ?_)))
        simp [↓Nat.forall_lt_succ_right, bitAt_ofNat, *]
    · exact decodeThumbMisc_hasCode h15 h14 h13 h12
  case h_7 h15 h14 h13 =>
    cases h12 : bitAt h 12
    · cases h11 : bitAt h 11
      all_goals
        refine .of_fields rfl rfl (append_field 0 8 (append_field 8 3 (eq_field_of_bits ?_)))
        simp [↓Nat.forall_lt_succ_right, bitAt_ofNat, *]
    · exact decodeThumbBranch_hasCode h15 h14 h13 h12
  case h_8 =>
    split
    case h_2 =>
      refine ⟨inRow_of_bits rfl ?_, rfl⟩
      simp [↓Nat.forall_lt_succ_right, bitAt_ofNat, *]
    all_goals
      refine .of_fields rfl rfl (append_field 0 11 (eq_field_of_bits ?_))
      simp [↓Nat.forall_lt_succ_right, bitAt_ofNat, *]

/-- Settles O3, by the tests the decoder makes of the halfword. -/
theorem encodeDecodeThumb : Obligations.EncodeDecodeThumb := fun h => (decodeThumb_hasCode h).2

/-! ## ARM words

Only the undefined rows have a condition of well-formedness, and the tests that lead to such a row are its pattern.
`simp only [Instr.wellFormed]` closes the other rows and leaves the undefined ones. -/

section
variable {w : Word}

theorem Instr.dpShi_wellFormed (op : DpOp) (c : Cond) (s : Bool) (rn rd : RegNum) (n : BitVec 5) (k : ShiftKind)
    (rm : RegNum) : (Instr.dpShi op c s rn rd n k rm).wellFormed = true := by cases op <;> rfl

theorem Instr.dpShr_wellFormed (op : DpOp) (c : Cond) (s : Bool) (rn rd rs : RegNum) (k : ShiftKind) (rm : RegNum) :
    (Instr.dpShr op c s rn rd rs k rm).wellFormed = true := by cases op <;> rfl

theorem Instr.dpImm_wellFormed (op : DpOp) (c : Cond) (s : Bool) (rn rd : RegNum) (r : BitVec 4) (x : BitVec 8) :
    (Instr.dpImm op c s rn rd r x).wellFormed = true := by cases op <;> rfl

theorem decodeArmDpReg_wellFormed : (decodeArmDpReg w).wellFormed = true := by
  unfold decodeArmDpReg
  dsimp only
  split
  · exact Instr.dpShr_wellFormed ..
  · exact Instr.dpShi_wellFormed ..

theorem decodeArmSingleImm_wellFormed : (decodeArmSingleImm w).wellFormed = true := by
  unfold decodeArmSingleImm
  dsimp only
  cases bitAt w 21 <;> split <;> rfl

theorem decodeArmSingleReg_wellFormed : (decodeArmSingleReg w).wellFormed = true := by
  unfold decodeArmSingleReg
  dsimp only
  cases bitAt w 21 <;> split <;> rfl

theorem decodeArmBlock_wellFormed : (decodeArmBlock w).wellFormed = true := by
  unfold decodeArmBlock
  dsimp only
  split <;> rfl

section
variable (h27 : bitAt w 27 = false) (h26 : bitAt w 26 = false)
include h27 h26

theorem decodeArmImm_wellFormed (h25 : bitAt w 25 = true) : (decodeArmImm w).wellFormed = true := by
  unfold decodeArmImm
  dsimp only
  split
  · split
    · rfl
    · exact inRow_of_bits rfl (by simp_all [↓Nat.forall_lt_succ_right, bitAt_ofNat])
  · exact Instr.dpImm_wellFormed ..

variable (h25 : bitAt w 25 = false)
include h25

theorem decodeArmMulSwp_wellFormed (h7 : bitAt w 7 = true) (h6 : bitAt w 6 = false) (h5 : bitAt w 5 = false)
    (h4 : bitAt w 4 = true) : (decodeArmMulSwp w).wellFormed = true := by
  unfold decodeArmMulSwp
  dsimp only
  repeat' split
  all_goals simp only [Instr.wellFormed]
  all_goals exact inRow_of_bits rfl (by simp_all [↓Nat.forall_lt_succ_right, bitAt_ofNat])

theorem decodeArmHalf_wellFormed (h7 : bitAt w 7 = true) (h4 : bitAt w 4 = true) :
    (decodeArmHalf w).wellFormed = true := by
  unfold decodeArmHalf
  dsimp only
  repeat' split
  all_goals simp only [Instr.wellFormed]
  exact inRow_of_bits rfl (by simp_all [↓Nat.forall_lt_succ_right, bitAt_ofNat])

theorem decodeArmMisc_wellFormed (h24 : bitAt w 24 = true) (h23 : bitAt w 23 = false) (h20 : bitAt w 20 = false)
    (h74 : bitAt w 7 = true → bitAt w 4 = false) : (decodeArmMisc w).wellFormed = true := by
  unfold decodeArmMisc
  dsimp only
  repeat' split
  all_goals simp only [Instr.wellFormed]
  all_goals exact inRow_of_bits rfl (by simp_all [↓Nat.forall_lt_succ_right, bitAt_ofNat])

end

end

theorem decodeArm_wellFormed (w : Word) : (decodeArm w).wellFormed = true := by
  unfold decodeArm
  dsimp only
  split
  case h_1 h27 h26 h25 =>
    split
    case isTrue h =>
      obtain ⟨h7, h4⟩ := Bool.and_eq_true_iff.1 h
      split
      case isTrue => exact decodeArmHalf_wellFormed h27 h26 h25 h7 h4
      case isFalse h =>
        obtain ⟨h6, h5⟩ := Bool.or_eq_false_iff.1 (Bool.eq_false_of_not_eq_true h)
        exact decodeArmMulSwp_wellFormed h27 h26 h25 h7 h6 h5 h4
    case isFalse h74 =>
      split
      case isTrue h =>
        simp only [Bool.and_eq_true, Bool.not_eq_true'] at h
        obtain ⟨⟨h24, h23⟩, h20⟩ := h
        exact decodeArmMisc_wellFormed h27 h26 h25 h24 h23 h20 (by simpa using h74)
      case isFalse => exact decodeArmDpReg_wellFormed
  case h_2 h27 h26 h25 => exact decodeArmImm_wellFormed h27 h26 h25
  case h_3 => exact decodeArmSingleImm_wellFormed
  case h_4 =>
    split
    · exact inRow_of_bits rfl (by simp [↓Nat.forall_lt_succ_right, bitAt_ofNat, *])
    · exact decodeArmSingleReg_wellFormed
  case h_5 => exact decodeArmBlock_wellFormed
  case h_6 => split <;> rfl
  case h_7 => rfl
  case h_8 =>
    split
    · rfl
    · split <;> rfl

/-- Settles O4: an undefined row is reached through the tests that are its pattern. -/
theorem decodedWellFormed : Obligations.DecodedWellFormed :=
  ⟨decodeArm_wellFormed, fun h => (decodeThumb_hasCode h).1⟩

end Sys2Proof
end

section
/-! PROOFS. O8, O9 (spec/30_encoding.md R205, R206): every meaning is guarded by its condition, and what the conditions say
of the flags of a difference. -/

namespace Sys2Proof.Machine

open Sys2Proof

/-- Every meaning is guarded by the condition of its instruction; AL guards the THUMB rows outside format 16. -/
theorem exec_eq_whenPassed (i : Instr) (s : State) : ∃ k, exec i s = s.whenPassed (instrCond i) k := by
  cases i <;> exact ⟨fun _ => _, rfl⟩

/-- Settles O8: behind a condition that fails stands the sequential advance. -/
theorem conditionFails : Obligations.ConditionFails := by
  intro i s h
  obtain ⟨k, hk⟩ := exec_eq_whenPassed i s
  exact hk.trans (State.whenPassed_fail h)

/-! ## The flags of a difference (40_arm_dataproc.md R282, R290) -/

theorem subWithCarry_result (a b : Word) : (subWithCarry a b true).result = a - b := by
  simp [subWithCarry, bitWord]

section
variable (a b : Word) (p : Psr)

theorem compare_n : (p.setNzcv (subWithCarry a b true)).n = decide ((a - b).toInt < 0) := by
  rw [Psr.setNzcv, subWithCarry_result, ← BitVec.msb_eq_getLsbD_last, BitVec.msb_eq_toInt]

theorem compare_z : (p.setNzcv (subWithCarry a b true)).z = decide (a = b) := by
  rw [Psr.setNzcv, subWithCarry_result, beq_eq_decide, decide_eq_decide]
  bv_omega

theorem compare_c : (p.setNzcv (subWithCarry a b true)).c = decide (b.toNat ≤ a.toNat) := by
  obtain ⟨-, hc, -⟩ := subWithCarry_exact a b true
  exact hc

theorem compare_v : (p.setNzcv (subWithCarry a b true)).v =
    decide (a.toInt - b.toInt < -2147483648 ∨ 2147483647 < a.toInt - b.toInt) := by
  obtain ⟨-, -, hv⟩ := subWithCarry_exact a b true
  simpa [Psr.setNzcv] using hv

/-- V says that N is not the sign of the exact difference, so N and V differ exactly where that is negative. -/
theorem compare_n_bne_v : ((p.setNzcv (subWithCarry a b true)).n != (p.setNzcv (subWithCarry a b true)).v) =
    decide (a.toInt < b.toInt) := by
  have ha := a.toInt_lt
  have ha' := a.le_toInt
  have hb := b.toInt_lt
  have hb' := b.le_toInt
  rw [compare_n, compare_v, Bool.eq_iff_iff, BitVec.toInt_sub, Int.bmod_def]
  simp only [bne_iff_ne, ne_eq, decide_eq_decide, decide_eq_true_eq]
  omega

end

/-- Settles O9: the four flags of a difference in exact arithmetic, and N against V as the signed order. -/
theorem conditionsOfCompare : Obligations.ConditionsOfCompare := by
  intro a b p q
  have hn : q.n = decide ((a - b).toInt < 0) := compare_n a b p
  have hz : q.z = decide (a = b) := compare_z a b p
  have hc : q.c = decide (b.toNat ≤ a.toNat) := compare_c a b p
  have hv : q.v = decide (a.toInt - b.toInt < -2147483648 ∨ 2147483647 < a.toInt - b.toInt) := compare_v a b p
  have hlt : (q.n != q.v) = decide (a.toInt < b.toInt) := compare_n_bne_v a b p
  have hge : (q.n == q.v) = decide (b.toInt ≤ a.toInt) := by
    rw [← Bool.not_not (q.n == q.v), ← bne, hlt, ← decide_not, decide_eq_decide, Int.not_lt]
  refine ⟨?eq, ?ne, ?cs, ?cc, ?hi, ?ls, ?ge, ?lt, ?gt, ?le, ?mi, ?pl, ?vs, ?vc, rfl, rfl⟩
  case eq | ne => simp [condHolds, hz]
  case cs | cc => simp [condHolds, hc]
  case hi | ls =>
    simp only [condHolds, hc, hz, BitVec.toNat_inj.symm, Bool.and_eq_true, Bool.or_eq_true, Bool.not_eq_true',
      decide_eq_true_eq, decide_eq_false_iff_not]
    omega
  case ge | lt => simp [condHolds, hge, hlt]
  case gt | le =>
    simp only [condHolds, hge, hlt, hz, BitVec.toInt_inj.symm, Bool.and_eq_true, Bool.or_eq_true, Bool.not_eq_true',
      decide_eq_true_eq, decide_eq_false_iff_not]
    omega
  case mi | pl => simp [condHolds, hn]
  case vs | vc => simp [condHolds, hv]

end Sys2Proof.Machine
end

section
/-! PROOFS. O11 (spec/40_arm_dataproc.md R271, R272): one equation per kind of shift for every register amount from
1 on, and the two parts of each equation in exact arithmetic. -/

namespace Sys2Proof.Machine

open Sys2Proof

section
variable (n : Byte) (m : Word) (c : Bool)

/-! ## The register form, one equation per kind of shift -/

theorem shiftRegister_lsl (h : n.toNat ≠ 0) :
    shiftRegister .lsl n m c = (m <<< n.toNat, decide (n.toNat ≤ 32) && m.getLsbD (32 - n.toNat)) := by
  simp only [shiftRegister, if_neg h]
  split
  · simp [show n.toNat ≤ 32 by omega]
  · rw [BitVec.shiftLeft_eq_zero (by omega : 32 ≤ n.toNat)]
    split
    · simp [*]
    · simp [show ¬ n.toNat ≤ 32 by omega]

theorem shiftRegister_lsr (h : n.toNat ≠ 0) :
    shiftRegister .lsr n m c = (m >>> n.toNat, m.getLsbD (n.toNat - 1)) := by
  simp only [shiftRegister, if_neg h]
  split
  · rfl
  · rw [BitVec.ushiftRight_eq_zero (by omega : 32 ≤ n.toNat)]
    split
    · simp [*]
    · rw [BitVec.getLsbD_of_ge m _ (by omega : 32 ≤ n.toNat - 1)]

/-- A signed shift by 32 or more leaves the sign in every bit. -/
theorem sshiftRight_eq_signFill {k : Nat} (h : 32 ≤ k) : m.sshiftRight k = signFill (m.getLsbD 31) := by
  rw [← show m.msb = m.getLsbD 31 from BitVec.msb_eq_getLsbD_last m]
  cases hm : m.msb with
  | false => rw [BitVec.sshiftRight_eq_of_msb_false hm, BitVec.ushiftRight_eq_zero h]; rfl
  | true => rw [BitVec.sshiftRight_eq_of_msb_true hm, BitVec.ushiftRight_eq_zero h]; rfl

/-- The carry-out is the lowest bit of the value shifted by one less; above 32 that is the sign. -/
theorem shiftRegister_asr (h : n.toNat ≠ 0) :
    shiftRegister .asr n m c = (m.sshiftRight n.toNat, (m.sshiftRight (n.toNat - 1)).getLsbD 0) := by
  simp only [shiftRegister, if_neg h, BitVec.getLsbD_sshiftRight, BitVec.msb_eq_getLsbD_last]
  split
  · simp [show n.toNat - 1 < 32 by omega]
  · rw [sshiftRight_eq_signFill m (by omega)]
    by_cases h32 : n.toNat = 32
    · simp [h32]
    · simp [show ¬ n.toNat - 1 < 32 by omega]

theorem shiftRegister_ror (h : n.toNat ≠ 0) :
    shiftRegister .ror n m c = (m.rotateRight n.toNat, m.getLsbD ((n.toNat - 1) % 32)) := by
  simp only [shiftRegister, if_neg h, BitVec.rotateRight_mod_eq_rotateRight]
  split
  · rw [show (n.toNat - 1) % 32 = 31 by omega]
    simp [BitVec.rotateRight_def, *]
  · rw [show (n.toNat - 1) % 32 = n.toNat % 32 - 1 by omega]

/-! ## The bits in exact arithmetic -/

theorem getLsbD_eq_decide_div (k : Nat) : m.getLsbD k = decide (m.toNat / 2 ^ k % 2 = 1) := by
  rw [← BitVec.testBit_toNat, Nat.testBit_eq_decide_div_mod_eq]

theorem getLsbD_zero_eq_decide_toInt : m.getLsbD 0 = decide (m.toInt % 2 = 1) := by
  rw [getLsbD_eq_decide_div, decide_eq_decide, BitVec.toInt_eq_toNat_cond]
  split <;> omega

/-- Bit 32 of the exact product is the last bit moved out to the left. -/
theorem lsl_carry_exact (k : Nat) :
    (decide (k ≤ 32) && m.getLsbD (32 - k)) = decide (m.toNat * 2 ^ k / 2 ^ 32 % 2 = 1) := by
  rw [← Nat.testBit_eq_decide_div_mod_eq, Nat.testBit_mul_two_pow, BitVec.testBit_toNat]

theorem sshiftRight_toInt (k : Nat) : (m.sshiftRight k).toInt = m.toInt / 2 ^ k := by
  rw [BitVec.toInt_sshiftRight, Int.shiftRight_eq_div_pow]
  norm_cast

theorem rotateRight_getLsbD {i : Nat} (k : Nat) (h : i < 32) :
    (m.rotateRight k).getLsbD i = m.getLsbD ((i + k) % 32) := by
  rw [BitVec.getLsbD_rotateRight]
  by_cases hi : i < 32 - k % 32
  · rw [decide_eq_true hi, show (i + k) % 32 = k % 32 + i by omega]
    rfl
  · rw [decide_eq_false hi, decide_eq_true h, show (i + k) % 32 = i - (32 - k % 32) by omega]
    rfl

/-! ## The immediate form -/

/-- An immediate amount from 1 on shifts as the same register amount (R271, R272). -/
theorem shiftImmediate_of_ne (t : ShiftKind) (n : BitVec 5) (h : n ≠ 0#5) :
    shiftImmediate t n m c = shiftRegister t (n.zeroExtend 8) m c := by
  have hn : (n.zeroExtend 8).toNat = n.toNat := by simp; omega
  have h0 : n.toNat ≠ 0 := BitVec.toNat_ne.1 h
  have hlt : n.toNat < 32 := n.isLt
  cases t <;> simp [shiftImmediate, shiftRegister, hn, h0, hlt, Nat.mod_eq_of_lt]

/-- RRX: the carry moves in as bit 31 (R271). -/
theorem rrx_toNat : (shiftImmediate .ror 0#5 m c).1.toNat = m.toNat / 2 + (if c then 2 ^ 31 else 0) := by
  have hm := m.isLt
  have h31 : (m.extractLsb' 1 31).toNat = m.toNat / 2 := by
    rw [BitVec.extractLsb'_toNat, Nat.shiftRight_one]
    omega
  show (BitVec.ofBool c ++ m.extractLsb' 1 31).toNat = _
  rw [BitVec.toNat_append, ← Nat.shiftLeft_add_eq_or_of_lt (BitVec.isLt _), h31, Nat.add_comm]
  cases c <;> rfl

end

/-- Settles O11: the equation of each kind of shift, and its two parts in exact arithmetic. -/
theorem shifterArithmetic : Obligations.ShifterArithmetic := by
  refine ⟨fun t m c => rfl, fun n m c hn => ?register,
    fun t n m c hn => shiftImmediate_of_ne m c t n hn, fun m c => ?zero⟩
  case register =>
    have h : n.toNat ≠ 0 := BitVec.toNat_ne.1 hn
    rw [shiftRegister_lsl n m c h, shiftRegister_lsr n m c h, shiftRegister_asr n m c h, shiftRegister_ror n m c h]
    refine ⟨?_, lsl_carry_exact m _, ?_, getLsbD_eq_decide_div m _, sshiftRight_toInt m _, ?_,
      fun i hi => rotateRight_getLsbD m _ hi, rfl⟩
    · rw [BitVec.toNat_shiftLeft, Nat.shiftLeft_eq]
    · rw [BitVec.toNat_ushiftRight, Nat.shiftRight_eq_div_pow]
    · rw [getLsbD_zero_eq_decide_toInt, sshiftRight_toInt]
  case zero =>
    exact ⟨rfl, rfl, rfl, rrx_toNat m c, (getLsbD_eq_decide_div m 0).trans (by rw [Nat.pow_zero, Nat.div_one])⟩

end Sys2Proof.Machine
end

section
/-! PROOFS. O12, O13, O14, O15 (spec/40_arm_dataproc.md R271..R276): every row of data processing is the form of its
operation behind the condition, and what the common frame answers with and without R15 as destination. -/

namespace Sys2Proof.Machine

open Sys2Proof

section
variable (op : DpOp) (c : Cond) (s : Bool) (rn rd rs : RegNum) (t : ShiftKind) (rm : RegNum) (st : State)

/-! ## The rows by operation

The tests write no `Rd` and MOV and MVN read no `Rn`, so the operands their rows lack do not matter (R276). -/

theorem exec_dpShi (n : BitVec 5) : exec (Instr.dpShi op c s rn rd n t rm) st =
    st.whenPassed c (dpShiftImmediate op (op.setsFlags s) rn rd n t rm) := by
  cases op <;> cases s <;> rfl

theorem exec_dpImm (rotate : BitVec 4) (imm8 : BitVec 8) : exec (Instr.dpImm op c s rn rd rotate imm8) st =
    st.whenPassed c (dpImmediate op (op.setsFlags s) rn rd rotate imm8) := by
  cases op <;> cases s <;> rfl

theorem exec_dpShr : exec (Instr.dpShr op c s rn rd rs t rm) st =
    st.whenPassed c (dpShiftRegister op (op.setsFlags s) rn rd rs t rm) := by
  cases op <;> cases s <;> rfl

end

/-- The register-shift form outside its UNPREDICTABLE cases, or with them emulated (R272). -/
theorem dpShiftRegister_eq {op : DpOp} {s : Bool} {rn rd rs : RegNum} {t : ShiftKind} {rm : RegNum} {st : State}
    (hs : st.strict = true → rs ≠ 15#4) (hd : st.strict = true → dpWritesRd op = true → rd ≠ 15#4) :
    dpShiftRegister op s rn rd rs t rm st =
      (let o := shiftRegister t ((st.regStore rs).extractLsb' 0 8) (st.regStore rm) st.cpu.cpsr.c
       dataProcessing op s rd (st.regStore rn) o.1 o.2 (st.internal 1)) := by
  rw [dpShiftRegister, State.unpredictable_ok fun h => by simpa using hs h,
    State.unpredictable_ok fun h => by simpa using hd h]

/-- Settles O12: the row is the form of its operation, which does not write R15. -/
theorem dpImmediateShift : Obligations.DpImmediateShift := by
  intro op c s rn rd n t rm st hc hd o r p
  rw [exec_dpShi, State.whenPassed_pass hc]
  exact dataProcessing_of_ne op (op.setsFlags s) rd (st.reg rn) o.1 o.2 st hd

/-- Settles O13: the same with the internal cycle charged before the common frame. -/
theorem dpRegisterShift : Obligations.DpRegisterShift := by
  intro op c s rn rd rs t rm st hc hd hs o r p
  rw [exec_dpShr, State.whenPassed_pass hc, dpShiftRegister_eq hs fun _ => hd]
  exact dataProcessing_of_ne op (op.setsFlags s) rd (st.regStore rn) o.1 o.2 (st.internal 1) hd

/-- Settles O14: the same with the rotated immediate as operand. -/
theorem dpImmediateForm : Obligations.DpImmediateForm := by
  intro op c s rn rd rotate imm8 st hc hd v sc r p
  rw [exec_dpImm, State.whenPassed_pass hc]
  exact dataProcessing_of_ne op (op.setsFlags s) rd (st.reg rn) v sc st hd

/-! ## R15 as destination -/

theorem DpOp.setsFlags_of_writesRd {op : DpOp} (h : dpWritesRd op = true) (s : Bool) : op.setsFlags s = s := by
  simp [DpOp.setsFlags, h]

/-- User and System mode have no SPSR to restore from (R275, 00_scope.md R12). -/
theorem State.restoreCpsr_none {s : State} (h : s.cpu.currentSpsr = none) :
    s.restoreCpsr = if s.strict then .error (.unpredictable .spsrInUserSystem) else .ok s := by
  rw [State.restoreCpsr, h]

/-- Settles O15: the common frame branches, after the restore when `S = 1`. -/
theorem dpWritesPc : Obligations.DpWritesPc := by
  intro op c s rn rm rs n t rotate imm8 st i o a u hc hw h r
  obtain ⟨he, hcpu, hstrict⟩ :
      exec i st = dataProcessing op s 15#4 a o.1 o.2 u ∧ u.cpu = st.cpu ∧ u.strict = st.strict := by
    rcases h with ⟨rfl, rfl, rfl, rfl⟩ | ⟨rfl, rfl, rfl, rfl⟩ | ⟨rfl, hs, rfl, rfl, rfl⟩
    · rw [exec_dpShi, State.whenPassed_pass hc, DpOp.setsFlags_of_writesRd hw]
      exact ⟨rfl, rfl, rfl⟩
    · rw [exec_dpImm, State.whenPassed_pass hc, DpOp.setsFlags_of_writesRd hw]
      exact ⟨rfl, rfl, rfl⟩
    · rw [exec_dpShr, State.whenPassed_pass hc, DpOp.setsFlags_of_writesRd hw, dpShiftRegister_eq (by simp [hs])
        (by simp [hs])]
      exact ⟨rfl, rfl, rfl⟩
  have hreturn : s = true → exec i st = orFault u.restoreCpsr fun u => .next (u.branch r) := by
    rintro rfl
    rw [he, dataProcessing_return _ _ _ _ _ hw, hcpu]
  refine ⟨?branch, fun hs p hp hm => ?restored, fun hs p hp hm => ?invalid, fun hs hp hst => ?emulated,
    fun hs hp hst => ?strict⟩
  case branch =>
    rintro rfl
    rw [he, dataProcessing_branch _ _ _ _ _ hw, hcpu]
  case restored =>
    rw [hreturn hs, State.restoreCpsr_some (hcpu ▸ hp), if_pos hm, orFault_ok, State.setCpsr, hcpu]
  case invalid =>
    rw [hreturn hs, State.restoreCpsr_some (hcpu ▸ hp), hm]
    rfl
  case emulated =>
    rw [hreturn hs, State.restoreCpsr_none (hcpu ▸ hp), hstrict, hst]
    rfl
  case strict =>
    rw [hreturn hs, State.restoreCpsr_none (hcpu ▸ hp), hstrict, hst]
    rfl

end Sys2Proof.Machine
end

section
/-! PROOFS. O16, O17, O18, O31 (spec/41_arm_multiply.md R311..R319, 42_arm_psr_branch.md R332, 43_arm_loadstore.md
R372): the multiplier's cycles as ranges of values, the product in exact arithmetic, and each multiply as its effects up to the
write of its destinations, which is an advance or, for R15, a branch. -/

namespace Sys2Proof.Machine

open Sys2Proof

/-! ## The cycles of the multiplier (R313) -/

section
variable (x : Word) {k len : Nat}

theorem extract_top_toNat (h : k + len = 32) : (x.extractLsb' k len).toNat = x.toNat / 2 ^ k := by
  have hx : x.toNat < 2 ^ k * 2 ^ len := by rw [← pow_add, h]; exact x.isLt
  rw [BitVec.extractLsb'_toNat, Nat.shiftRight_eq_div_pow, Nat.mod_eq_of_lt (Nat.div_lt_of_lt_mul hx)]

theorem extract_top_eq_zero (h : k + len = 32) : (x.extractLsb' k len == 0#len) = decide (x.toNat < 2 ^ k) := by
  rw [Bool.eq_iff_iff, beq_iff_eq, decide_eq_true_iff, ← BitVec.toNat_inj, extract_top_toNat x h, BitVec.toNat_ofNat,
    Nat.zero_mod, Nat.div_eq_zero_iff_lt (Nat.two_pow_pos k)]

theorem extract_top_eq_allOnes (h : k + len = 32) :
    (x.extractLsb' k len == BitVec.allOnes len) = decide (2 ^ 32 - 2 ^ k ≤ x.toNat) := by
  have hx : x.toNat / 2 ^ k < 2 ^ len := extract_top_toNat x h ▸ (x.extractLsb' k len).isLt
  have hp : 2 ^ 32 - 2 ^ k = (2 ^ len - 1) * 2 ^ k := by rw [Nat.sub_mul, ← pow_add, Nat.add_comm, h, Nat.one_mul]
  rw [Bool.eq_iff_iff, beq_iff_eq, decide_eq_true_iff, ← BitVec.toNat_inj, extract_top_toNat x h, BitVec.toNat_allOnes,
    hp, ← Nat.le_div_iff_mul_le (Nat.two_pow_pos k)]
  omega

/-- The bits above `k` only repeat the sign: the signed value lies within `k` bits and its sign. -/
theorem extract_top_repeats_sign (h : k + len = 32) (hk : k < 32) :
    (x.extractLsb' k len == 0#len || x.extractLsb' k len == BitVec.allOnes len) =
      decide (-((2 ^ k : Nat) : Int) ≤ x.toInt ∧ x.toInt < (2 ^ k : Nat)) := by
  have hle : 2 ^ k ≤ 2 ^ 31 := Nat.pow_le_pow_right (by decide) (by omega)
  have hx := x.isLt
  rw [extract_top_eq_zero x h, extract_top_eq_allOnes x h, ← Bool.decide_or, decide_eq_decide,
    BitVec.toInt_eq_toNat_cond]
  split <;> omega

end

/-- Settles O18: the bytes not worked through are the top of `Rs`, and each of the three tops is a range of values. -/
theorem multiplierCycles_ranges : Obligations.MultiplierCycles := by
  intro x
  constructor
  · simp (disch := decide) only [multiplierCycles, Bool.true_and, extract_top_repeats_sign, decide_eq_true_eq]
    norm_num
  · simp only [multiplierCycles, Bool.false_and, Bool.or_false, extract_top_eq_zero, decide_eq_true_eq]
    norm_num

/-! ## The product (R316..R319) -/

theorem longProduct_eq_ofInt (signed : Bool) (a b : Word) :
    longProduct signed a b = BitVec.ofInt 64 (if signed then a.toInt * b.toInt else a.toNat * b.toNat) := by
  cases signed
  · simp only [longProduct, Bool.false_eq_true, if_false, BitVec.ofInt_mul, BitVec.ofInt_natCast, BitVec.ofNat_toNat,
      BitVec.zeroExtend_eq_setWidth]
  · simp only [longProduct, if_true, BitVec.ofInt_mul, BitVec.signExtend]

theorem append_eq_ofInt (hi lo : Word) :
    (hi ++ lo : BitVec 64) = BitVec.ofInt 64 (2 ^ 32 * hi.toNat + lo.toNat) := by
  have e : (2 ^ 32 * hi.toNat + lo.toNat : Int) = ((hi ++ lo : BitVec 64).toNat : Int) := by
    rw [BitVec.toNat_append, ← Nat.shiftLeft_add_eq_or_of_lt lo.isLt, Nat.shiftLeft_eq]
    push_cast
    ring
  rw [e, BitVec.ofInt_natCast, BitVec.ofNat_toNat, BitVec.setWidth_eq]

/-- The result of a long multiply: its product, and the accumulator of UMLAL and SMLAL. -/
theorem longResult_eq_ofInt (signed acc : Bool) (a b hi lo : Word) :
    (if acc then longProduct signed a b + (hi ++ lo) else longProduct signed a b) =
      BitVec.ofInt 64 ((if signed then a.toInt * b.toInt else a.toNat * b.toNat) +
        if acc then 2 ^ 32 * (hi.toNat : Int) + lo.toNat else 0) := by
  rw [longProduct_eq_ofInt, append_eq_ofInt]
  cases acc
  · simp
  · exact (BitVec.ofInt_add _ _).symm

/-! ## The flags before the destinations

N and Z are placed before the destinations are written, and leave the mode and T, so the view and the advance are those
before them (R311). -/

theorem Psr.flagsWhen_t (w : Bool) (p : Psr) (n z : Bool) : (if w then { p with n := n, z := z } else p).t = p.t := by
  cases w <;> rfl

theorem Psr.flagsWhen_m (w : Bool) (p : Psr) (n z : Bool) : (if w then { p with n := n, z := z } else p).m = p.m := by
  cases w <;> rfl

theorem State.setReg_eq_based (s : State) (r : RegNum) (v : Word) :
    s.setReg r v = { s with cpu := s.cpu.based (r != 15#4) r v } :=
  s.writeBack_eq true r v

section
variable {s : State} {p : Psr} (hm : p.m = s.cpu.cpsr.m)
include hm

theorem State.setCpsr_based (wb : Bool) (r : RegNum) (v : Word) :
    (s.setCpsr p).cpu.based wb r v = { s.cpu.based wb r v with cpsr := p } := by
  cases wb
  · rfl
  · simp [Cpu.based, Cpu.bank, State.setCpsr, hm]

theorem State.setCpsr_finish_of_ne {rd : RegNum} (v : Word) (ht : p.t = s.cpu.cpsr.t) (h : rd ≠ 15#4) :
    (s.setCpsr p).finish rd v = { s with cpu := s.cpu.wrote rd v p } := by
  rw [State.finish_of_ne _ _ _ h]
  simp [Cpu.wrote, Cpu.bank, State.setCpsr, hm, ht]

end

/-! ## MUL and MLA (R312, R314, R315) -/

/-- MUL and MLA up to the write of `Rd`: the cycles and the flags. -/
theorem multiply_eq_finish (s : Bool) (rd rs rm : RegNum) (addend : Word) (extra : Nat) (st : State) {r : Word}
    (hr : st.reg rm * st.reg rs + addend = r) :
    multiply s rd rs rm addend extra st =
      .next (((st.internal (multiplierCycles true (st.reg rs) + extra)).setCpsr
        (if s then st.cpu.cpsr.setNz r else st.cpu.cpsr)).finish rd r) := by
  subst hr
  cases s <;> rfl

section
variable {c : Cond} {s : Bool} {rd rn rs rm : RegNum} {st : State} (hc : condHolds c st.cpu.cpsr = true)
include hc

/-- MUL outside its UNPREDICTABLE cases, or with them emulated: it adds nothing. -/
theorem exec_mul_eq (h : st.strict = true → rd ≠ 15#4 ∧ rs ≠ 15#4 ∧ rm ≠ 15#4 ∧ rd ≠ rm) :
    exec (.mul c s rd rs rm) st =
      .next (((st.internal (multiplierCycles true (st.reg rs))).setCpsr
        (if s then st.cpu.cpsr.setNz (st.reg rm * st.reg rs) else st.cpu.cpsr)).finish rd (st.reg rm * st.reg rs)) := by
  change st.whenPassed c (multiplyShort s rd rs rm none) = _
  rw [State.whenPassed_pass hc, multiplyShort, State.unpredictable_ok fun hs => by simp [h hs],
    State.unpredictable_ok fun hs => by simp [h hs]]
  exact multiply_eq_finish s rd rs rm 0#32 0 st (BitVec.add_zero _)

/-- MLA outside its UNPREDICTABLE cases, or with them emulated. -/
theorem exec_mla_eq {r : Word} (hr : st.reg rm * st.reg rs + st.reg rn = r)
    (h : st.strict = true → rd ≠ 15#4 ∧ rs ≠ 15#4 ∧ rm ≠ 15#4 ∧ rd ≠ rm) (hn : st.strict = true → rn ≠ 15#4) :
    exec (.mla c s rd rn rs rm) st =
      .next (((st.internal (multiplierCycles true (st.reg rs) + 1)).setCpsr
        (if s then st.cpu.cpsr.setNz r else st.cpu.cpsr)).finish rd r) := by
  change st.whenPassed c (multiplyShort s rd rs rm (some rn)) = _
  rw [State.whenPassed_pass hc, multiplyShort, State.unpredictable_ok fun hs => by simp [h hs, hn hs],
    State.unpredictable_ok fun hs => by simp [h hs]]
  exact multiply_eq_finish s rd rs rm (st.reg rn) 1 st hr

end

/-- Settles O16: a destination other than R15 is written before the advance. -/
theorem multiplyShort_effects : Obligations.MultiplyShort := by
  intro c s rd rn rs rm st hc hd h
  have hx : st.strict = true → rd ≠ 15#4 ∧ rs ≠ 15#4 ∧ rm ≠ 15#4 ∧ rd ≠ rm := fun hs => ⟨hd, h hs⟩
  refine ⟨?mul, fun hn => ?mla⟩
  case mul =>
    exact (exec_mul_eq hc hx).trans
      (congrArg _ (State.setCpsr_finish_of_ne (Psr.flagsWhen_m ..) _ (Psr.flagsWhen_t ..) hd))
  case mla =>
    exact (exec_mla_eq hc rfl hx hn).trans
      (congrArg _ (State.setCpsr_finish_of_ne (Psr.flagsWhen_m ..) _ (Psr.flagsWhen_t ..) hd))

/-! ## The long multiplies (R312, R316..R319) -/

/-- A long multiply outside its UNPREDICTABLE cases, or with them emulated, up to the writes of its destinations. -/
theorem exec_mulLong_eq {signed acc : Bool} {c : Cond} {s : Bool} {rdHi rdLo rs rm : RegNum} {st : State}
    {r : BitVec 64} (hc : condHolds c st.cpu.cpsr = true)
    (h : st.strict = true → rdHi ≠ 15#4 ∧ rdLo ≠ 15#4 ∧ rs ≠ 15#4 ∧ rm ≠ 15#4 ∧ rdHi ≠ rdLo ∧ rdHi ≠ rm ∧ rdLo ≠ rm)
    (hr : r = BitVec.ofInt 64
      ((if signed then (st.reg rm).toInt * (st.reg rs).toInt else (st.reg rm).toNat * (st.reg rs).toNat) +
        if acc then 2 ^ 32 * ((st.reg rdHi).toNat : Int) + (st.reg rdLo).toNat else 0)) :
    exec (Instr.mulLong signed acc c s rdHi rdLo rs rm) st =
      .next (((st.internal (multiplierCycles signed (st.reg rs) + if acc then 2 else 1)).setCpsr
        (if s then { st.cpu.cpsr with n := r.getLsbD 63, z := r == 0#64 } else st.cpu.cpsr)).finishLong rdHi rdLo
          (r.extractLsb' 32 32) (r.extractLsb' 0 32)) := by
  have hrow : exec (Instr.mulLong signed acc c s rdHi rdLo rs rm) st =
      st.whenPassed c (multiplyLong signed acc s rdHi rdLo rs rm) := by cases signed <;> cases acc <;> rfl
  rw [hrow, State.whenPassed_pass hc, multiplyLong, State.unpredictable_ok fun hs => by simp [h hs],
    State.unpredictable_ok fun hs => by simp [h hs], State.unpredictable_ok fun hs => by simp [h hs]]
  dsimp only
  rw [longResult_eq_ofInt, ← hr]
  cases s <;> rfl

section
variable (s : State) {rdHi rdLo : RegNum} (hi lo : Word)

theorem State.finishLong_of_ne (hh : rdHi ≠ 15#4) (hl : rdLo ≠ 15#4) :
    s.finishLong rdHi rdLo hi lo = { s with cpu := { s.cpu with
      regs := (s.cpu.regs.set (physIndex s.cpu.bank rdLo) lo).set (physIndex s.cpu.bank rdHi) hi,
      pc := s.cpu.pc + widthOf s.cpu.cpsr.t } } := by
  rw [State.finishLong, if_neg hh, if_neg hl, State.setReg_of_ne _ _ _ hl, State.setReg_of_ne _ _ _ hh]
  rfl

/-- The destination that is R15 is a branch, after the other one is written; of two, to the high word (log entry 33). -/
theorem State.finishLong_branch (h : rdHi = 15#4 ∨ rdLo = 15#4) :
    s.finishLong rdHi rdLo hi lo = State.branch (if rdHi = 15#4 then hi else lo)
      { s with cpu := if rdHi = 15#4 then s.cpu.based (rdLo != 15#4) rdLo lo
                      else s.cpu.based (rdHi != 15#4) rdHi hi } := by
  by_cases hh : rdHi = 15#4
  · subst hh
    simp [State.finishLong, State.setReg_eq_based, Cpu.based]
  · have hl : rdLo = 15#4 := h.resolve_left hh
    subst hl
    simp [State.finishLong, State.setReg_eq_based, Cpu.based, hh]

theorem State.setCpsr_finishLong_branch {p : Psr} (hm : p.m = s.cpu.cpsr.m) (h : rdHi = 15#4 ∨ rdLo = 15#4) :
    (s.setCpsr p).finishLong rdHi rdLo hi lo = State.branch (if rdHi = 15#4 then hi else lo)
      { s with cpu := { if rdHi = 15#4 then s.cpu.based (rdLo != 15#4) rdLo lo
                        else s.cpu.based (rdHi != 15#4) rdHi hi with cpsr := p } } := by
  rw [State.finishLong_branch _ _ _ h, State.setCpsr_based hm, State.setCpsr_based hm]
  split <;> rfl

end

/-- Settles O17: destinations other than R15 are written, the low one first, before the advance. -/
theorem multiplyLong_effects : Obligations.MultiplyLong := by
  intro signed acc c s rdHi rdLo rs rm st r hc hh hl h hr q regs
  rw [exec_mulLong_eq hc (fun hs => ⟨hh, hl, h hs⟩) hr, State.finishLong_of_ne _ _ _ hh hl]
  cases s <;> rfl

/-! ## R15 as the destination under the policy `emulate` (R312, R332, R372) -/

/-- MRS outside its UNPREDICTABLE cases, or with them emulated: without an SPSR the CPSR is read (R332). -/
theorem exec_mrs_emulated {c : Cond} {st : State} (hc : condHolds c st.cpu.cpsr = true) (hs : st.strict = false)
    (r : Bool) (rd : RegNum) :
    exec (.mrs c r rd) st =
      .next (st.finish rd (if r then st.cpu.currentSpsr.getD st.cpu.cpsr else st.cpu.cpsr).toWord) := by
  change st.whenPassed c (readPsr r rd) = _
  rw [State.whenPassed_pass hc, readPsr, State.unpredictable_ok (by simp [hs])]
  cases r with
  | false => rfl
  | true =>
    cases hp : st.cpu.currentSpsr with
    | none => exact State.unpredictable_ok (by simp [hs])
    | some p => rfl

/-- A swap whose store the bus completes, outside the UNPREDICTABLE cases, or with them emulated (R372). -/
theorem swap_eq_finish {k : LoadKind} {w : Width} {rn rd rm : RegNum} {st : State} {y : Sys}
    (h : st.strict = true → rn ≠ 15#4 ∧ rd ≠ 15#4 ∧ rm ≠ 15#4 ∧ rn ≠ rm ∧ rn ≠ rd)
    (hy : (st.loadValue k (st.reg rn)).2.sys.store .nonseq w (st.reg rn) (st.reg rm) = .ok y) :
    swap k w rn rd rm st =
      .next (State.finish rd (st.loadValue k (st.reg rn)).1 { cpu := st.cpu, sys := y.paid 1 }) := by
  rw [swap, State.unpredictable_ok fun hs => by simp [h hs], State.unpredictable_ok fun hs => by simp [h hs]]
  dsimp only
  rw [hy]
  rfl

/-- Settles O31: the write of R15 that ends each of these instructions is a branch. -/
theorem emulatedWritesPc : Obligations.EmulatedWritesPc := by
  intro signed acc c s rdHi rdLo rn rs rm st hc hs
  have emulated {P : Prop} : st.strict = true → P := by simp [hs]
  refine ⟨⟨?mul, ?mla⟩, fun h15 r hr => ?long, ?cpsr, fun p hp => ?spsr, fun hp => ?noSpsr,
    fun i k w hrow hstop => ?swap⟩
  case mul => exact exec_mul_eq hc emulated
  case mla => exact exec_mla_eq hc rfl emulated emulated
  case long =>
    exact (exec_mulLong_eq hc emulated hr).trans
      (congrArg _ (State.setCpsr_finishLong_branch _ _ _ (Psr.flagsWhen_m ..) h15))
  case cpsr => exact exec_mrs_emulated hc hs false 15#4
  case spsr => simpa [hp] using exec_mrs_emulated hc hs true 15#4
  case noSpsr => simpa [hp] using exec_mrs_emulated hc hs true 15#4
  case swap =>
    obtain ⟨y, hy⟩ := Sys.store_of_not_stops _ _ _ _ hstop
    refine ⟨y, hy, ?_⟩
    rcases hrow with ⟨rfl, rfl, rfl⟩ | ⟨rfl, rfl, rfl⟩ <;>
      exact (State.whenPassed_pass hc).trans (swap_eq_finish emulated hy)

end Sys2Proof.Machine
end

section
/-! PROOFS. O19, O20, O21 (spec/42_arm_psr_branch.md R331..R337, 10_state.md R60, R62, R63): a status register as a
word, what MRS reads and MSR writes under every mask, mode and policy, and the branches of ARM state. -/

namespace Sys2Proof.Machine

open Sys2Proof

/-! ## A status register as a word (10_state.md R60, R62) -/

/-- The single bits of the word, each the part of the concatenation it lies in. -/
theorem Psr.toWord_bits (p : Psr) :
    bitAt p.toWord 31 = p.n ∧ bitAt p.toWord 30 = p.z ∧ bitAt p.toWord 29 = p.c ∧ bitAt p.toWord 28 = p.v ∧
    bitAt p.toWord 7 = p.i ∧ bitAt p.toWord 6 = p.f ∧ bitAt p.toWord 5 = p.t := by
  simp (disch := decide) only [Psr.toWord, bitAt_append_hi, bitAt_append_lo, Nat.reduceSub, bitAt_ofBool, and_self]

theorem Psr.toWord_reserved (p : Psr) : field p.toWord 8 20 = 0#20 := by
  simp (disch := decide) only [Psr.toWord, field_append_hi, field_append_lo, Nat.reduceSub, field_all]

theorem Psr.toWord_mode (p : Psr) : field p.toWord 0 5 = p.m :=
  (field_append_lo _ p.m 0 5 le_rfl).trans (field_all p.m)

/-! ## MRS (R332) -/

/-- MRS to a register other than R15: the CPSR stands in where the mode has no SPSR, unless the policy faults. -/
theorem exec_mrs_of_ne {c : Cond} {rd : RegNum} {st : State} (hc : condHolds c st.cpu.cpsr = true) (hd : rd ≠ 15#4)
    (r : Bool) :
    exec (.mrs c r rd) st = st.unpredictable .spsrInUserSystem (r && st.cpu.noSpsr)
      (.next { st with
        cpu := st.cpu.wrote rd
          (if r then st.cpu.currentSpsr.getD st.cpu.cpsr else st.cpu.cpsr).toWord st.cpu.cpsr }) := by
  change st.whenPassed c (readPsr r rd) = _
  rw [State.whenPassed_pass hc, readPsr, State.unpredictable_ok fun _ => by simpa using hd]
  simp only [State.finish_of_ne _ _ _ hd]
  cases r with
  | false => rfl
  | true =>
    cases hp : st.cpu.currentSpsr with
    | none => rw [(Cpu.currentSpsr_eq_none_iff _).1 hp]; rfl
    | some p => rw [Cpu.noSpsr_of_currentSpsr hp]; rfl

/-- Settles O19: the bits of the word, and MRS with and without an SPSR. -/
theorem mrsReads : Obligations.MrsReads := by
  refine ⟨fun p => ?word, fun c rd st hc hd => ?read⟩
  case word =>
    obtain ⟨hn, hz, hcarry, hv, hi, hf, ht⟩ := p.toWord_bits
    exact ⟨hn, hz, hcarry, hv, p.toWord_reserved, hi, hf, ht, p.toWord_mode⟩
  case read =>
    have mrs := exec_mrs_of_ne hc hd
    refine ⟨mrs false, fun p hp => ?spsr, fun hp hs => ?emulated, fun hp hs => ?strict⟩
    case spsr =>
      rw [mrs, hp]
      exact State.unpredictable_ok fun _ => Cpu.noSpsr_of_currentSpsr hp
    case emulated =>
      rw [mrs, hp]
      exact State.unpredictable_ok (by simp [hs])
    case strict => exact (mrs true).trans (State.unpredictable_fault hs ((Cpu.currentSpsr_eq_none_iff _).1 hp))

/-! ## MSR (R331, R333, R334) -/

section
variable {mask : BitVec 4} {v : Word} {st : State}

/-- Without mask bit 0, and in User mode, only the flags are written. -/
theorem writeCpsr_flags (h : mask.getLsbD 0 = false ∨ st.cpu.userMode = true) :
    writeCpsr mask v st = .next { st with cpu := st.cpu.flagged (maskedFlags mask v st.cpu.cpsr) } := by
  have hc : (mask.getLsbD 0 && !st.cpu.userMode) = false := by simpa [imp_iff_not_or] using h
  simp only [writeCpsr, hc, Bool.false_eq_true, if_false]
  rw [State.setCpsr_advance _ _ (maskedFlags_rest ..).1]

/-- With mask bit 0 in a privileged mode the control field is written too, if its mode is valid; T stays, and asking to
change it is an UNPREDICTABLE case. -/
theorem writeCpsr_control (h0 : mask.getLsbD 0 = true) (hu : st.cpu.userMode = false) :
    writeCpsr mask v st =
      if modeValid (v.extractLsb' 0 5) then
        st.unpredictable .msrWritesT (v.getLsbD 5 != st.cpu.cpsr.t) (.next { st with
          cpu := st.cpu.flagged { (maskedFlags mask v st.cpu.cpsr).withControl v with t := st.cpu.cpsr.t } })
      else .fault (.invalidMode (v.extractLsb' 0 5)) := by
  rw [writeCpsr, h0, hu]
  cases modeValid (v.extractLsb' 0 5) <;> rfl

/-- The SPSR of the mode takes any value. -/
theorem writeSpsr_some {k : Fin 5} (hk : st.cpu.bank.spsrIndex = some k) :
    writeSpsr mask v st = .next { st with cpu := { st.cpu with
      spsr := st.cpu.spsr.set k (let p := maskedFlags mask v st.cpu.spsr[k]
        if mask.getLsbD 0 then p.withControl v else p),
      pc := st.cpu.pc + widthOf st.cpu.cpsr.t } } := by
  simp only [writeSpsr, Cpu.currentSpsr, Cpu.setCurrentSpsr, hk, State.advance]

/-- User and System mode have no SPSR to write. -/
theorem writeSpsr_none (hk : st.cpu.bank.spsrIndex = none) :
    writeSpsr mask v st = st.unpredictable .spsrInUserSystem true (.next st.advance) := by
  simp only [writeSpsr, Cpu.currentSpsr, hk]

end

/-- Settles O20: both forms are the write of the status register, taken by mask, mode and policy. -/
theorem msrWrites : Obligations.MsrWrites := by
  intro c r mask rotate imm8 rm st i v hc hrow flagged control
  have write : exec i st = if r then writeSpsr mask v st else writeCpsr mask v st := by
    rcases hrow with ⟨rfl, rfl, h15⟩ | ⟨rfl, rfl⟩
    · change st.whenPassed c (writePsrRegister r mask rm) = _
      rw [State.whenPassed_pass hc, writePsrRegister, State.unpredictable_ok fun hs => by simpa using h15 hs, writePsr]
    · change st.whenPassed c (writePsr r mask (rotatedImmediate rotate imm8)) = _
      rw [State.whenPassed_pass hc, writePsr, rotatedImmediate]
  have privileged (hm : st.cpu.cpsr.m ≠ 0b10000#5) : st.cpu.userMode = false := beq_eq_false_iff_ne.2 hm
  rw [write]
  refine ⟨?flags, ?control, ?invalidMode, ?writesT, ?spsr, ?noSpsr, ?noSpsrStrict⟩
  case flags =>
    rintro rfl h
    exact writeCpsr_flags (h.imp_right beq_iff_eq.2)
  case control =>
    rintro rfl h0 hm hv ht
    exact (writeCpsr_control h0 (privileged hm)).trans
      ((if_pos hv).trans (State.unpredictable_ok fun hs => bne_eq_false_iff_eq.2 (ht hs)))
  case invalidMode =>
    rintro rfl h0 hm hv
    exact (writeCpsr_control h0 (privileged hm)).trans (if_neg (by simp [hv]))
  case writesT =>
    rintro rfl h0 hm hv hs ht
    exact (writeCpsr_control h0 (privileged hm)).trans
      ((if_pos hv).trans (State.unpredictable_fault hs (bne_iff_ne.2 ht)))
  case spsr =>
    rintro rfl k hk
    exact writeSpsr_some hk
  case noSpsr =>
    rintro rfl hk hs
    exact (writeSpsr_none hk).trans (State.unpredictable_ok (by simp [hs]))
  case noSpsrStrict =>
    rintro rfl hk hs
    exact (writeSpsr_none hk).trans (State.unpredictable_fault hs rfl)

/-! ## Branches (R335..R337) -/

/-- Settles O21: in ARM state `PCread` is `A + 8`, and the write of T comes before the branch. -/
theorem armBranches : Obligations.ArmBranches := by
  intro c o rm st hc ht
  have hpc : st.pcRead = st.cpu.pc + 8#32 := by rw [State.pcRead_eq, ht]; rfl
  rw [← hpc]
  refine ⟨?branch, ?link, ?exchange⟩
  case branch =>
    change execB c o st = _
    rw [execB, State.whenPassed_pass hc, branchOffset24]
  case link =>
    change execBl c o st = _
    rw [execBl, State.whenPassed_pass hc, State.setReg_of_ne st 14#4 _ (by decide), branchOffset24]
  case exchange =>
    change execBx c rm st = _
    rw [execBx, State.whenPassed_pass hc]
    rfl

end Sys2Proof.Machine
end

section
/-! PROOFS. O23, O25, O27 (spec/43_arm_loadstore.md R350..R366, R372, R373): every row of a single or halfword transfer
is the transfer of its form behind the condition, which outside the UNPREDICTABLE cases is the shared load or store. -/

namespace Sys2Proof.Machine

open Sys2Proof

/-! ## The rows by width and form -/

section
variable (sk : SingleWidth) (hk : HalfLoad) (x : SingleForm) (c : Cond) (p u w : Bool) (rn rd rm : RegNum) (st : State)

theorem exec_loadImm (o : BitVec 12) : exec (Instr.loadImm sk x c u rn rd o) st =
    st.whenPassed c (loadImm sk.load (x.indexing u) rn rd o) := by
  cases sk <;> cases x <;> rfl

theorem exec_loadReg (n : BitVec 5) (t : ShiftKind) : exec (Instr.loadReg sk x c u rn rd n t rm) st =
    st.whenPassed c (loadShifted sk.load (x.indexing u) rn rd n t rm) := by
  cases sk <;> cases x <;> rfl

theorem exec_loadHalfImm (immH immL : BitVec 4) : exec (Instr.loadHalfImm hk c p u w rn rd immH immL) st =
    st.whenPassed c (loadHalfImm hk.load p u w rn rd immH immL) := by
  cases hk <;> rfl

theorem exec_loadHalfReg : exec (Instr.loadHalfReg hk c p u w rn rd rm) st =
    st.whenPassed c (loadHalfReg hk.load p u w rn rd rm) := by
  cases hk <;> rfl

theorem exec_storeImm (o : BitVec 12) : exec (Instr.storeImm sk x c u rn rd o) st =
    st.whenPassed c (storeImm sk.width (x.indexing u) rn rd o) := by
  cases sk <;> cases x <;> rfl

theorem exec_storeReg (n : BitVec 5) (t : ShiftKind) : exec (Instr.storeReg sk x c u rn rd n t rm) st =
    st.whenPassed c (storeShifted sk.width (x.indexing u) rn rd n t rm) := by
  cases sk <;> cases x <;> rfl

end

/-! ## Transfers outside their UNPREDICTABLE cases, or with them emulated (00_scope.md R12) -/

theorem LoadKind.toR15Case_eq_none_iff (k : LoadKind) : k.toR15Case = none ↔ k = .word := by
  cases k <;> simp [LoadKind.toR15Case]

theorem Width.ofR15Case_eq_none_iff (w : Width) : w.ofR15Case = none ↔ w = .word := by
  cases w <;> simp [Width.ofR15Case]

section
variable {k : LoadKind} {w : Width} {x : Indexing} {rn rd : RegNum} {st : State}

theorem loadTransfer_eq (offset : Word)
    (h : st.strict = true → (x.writeBack = true → rn ≠ 15#4 ∧ rd ≠ rn) ∧ (k ≠ .word → rd ≠ 15#4)) :
    loadTransfer k x rn rd offset st = .next (st.loadReg k (x.address (st.reg rn) offset) x.writeBack rn
      (moveBase x.up (st.reg rn) offset) rd) := by
  rw [loadTransfer, State.unpredictable_ok, State.unpredictable_ok, State.unpredictableCase_ok]
  · intro hs hk
    simpa using (h hs).2 (mt k.toR15Case_eq_none_iff.2 hk)
  · intro hs
    simpa using fun hw => ((h hs).1 hw).2
  · intro hs
    simpa using fun hw => ((h hs).1 hw).1

theorem storeTransfer_eq (offset : Word)
    (h : st.strict = true → (x.writeBack = true → rn ≠ 15#4) ∧ (w ≠ .word → rd ≠ 15#4)) :
    storeTransfer w x rn rd offset st = st.storeReg w (x.address (st.reg rn) offset) (st.regStore rd) x.writeBack rn
      (moveBase x.up (st.reg rn) offset) := by
  rw [storeTransfer, State.unpredictable_ok, State.unpredictableCase_ok]
  · intro hs hw
    simpa using (h hs).2 (mt w.ofR15Case_eq_none_iff.2 hw)
  · intro hs
    simpa using (h hs).1

end

/-- W is allowed where the transfer is pre-indexed (R352). -/
theorem halfPostIndexW_ok {p w : Bool} (h : p = true ∨ w = false) : (!p && w) = false := by
  rcases h with rfl | rfl <;> simp

/-- R15 stores `A + 12`, any other register its value (R353). -/
theorem State.regStore_eq (s : State) (r : RegNum) : s.regStore r = if r = 15#4 then s.pcStore else s.reg r := by
  unfold State.regStore State.reg State.regIn
  split <;> rfl

/-- Settles O23: each row is its transfer, which is the shared load. -/
theorem armLoads : Obligations.ArmLoads := by
  intro sk hk x c p u w rn rd rm o n t immH immL st i k ix off hc hrow hs moved a r cpu
  have transfer : exec i st = loadTransfer k ix rn rd off st := by
    rcases hrow with ⟨rfl, rfl, rfl, rfl⟩ | ⟨rfl, rfl, rfl, rfl, hm⟩ | ⟨rfl, rfl, rfl, rfl, hw⟩ |
      ⟨rfl, rfl, rfl, rfl, hmw⟩
    · rw [exec_loadImm, State.whenPassed_pass hc, loadImm]
    · rw [exec_loadReg, State.whenPassed_pass hc, loadShifted, State.unpredictable_ok fun h => by simpa using hm h]
      rfl
    · rw [exec_loadHalfImm, State.whenPassed_pass hc, loadHalfImm,
        State.unpredictable_ok fun h => halfPostIndexW_ok (hw h)]
      rfl
    · rw [exec_loadHalfReg, State.whenPassed_pass hc, loadHalfReg,
        State.unpredictable_ok fun h => halfPostIndexW_ok (hmw h).2,
        State.unpredictable_ok fun h => by simpa using (hmw h).1]
      rfl
  rw [transfer, loadTransfer_eq off hs, State.loadReg_eq]
  rfl

/-- Settles O25: each row is its transfer, which is the shared store. -/
theorem armStores : Obligations.ArmStores := by
  intro sk x c p u w rn rd rm o n t immH immL st i k ix off hc hrow hs moved a v hstop
  have transfer : exec i st = storeTransfer k ix rn rd off st := by
    rcases hrow with ⟨rfl, rfl, rfl, rfl⟩ | ⟨rfl, rfl, rfl, rfl, hm⟩ | ⟨rfl, rfl, rfl, rfl, hw⟩ |
      ⟨rfl, rfl, rfl, rfl, hmw⟩
    · rw [exec_storeImm, State.whenPassed_pass hc, storeImm]
    · rw [exec_storeReg, State.whenPassed_pass hc, storeShifted, State.unpredictable_ok fun h => by simpa using hm h]
      rfl
    · change st.whenPassed c (storeHalfImm p u w rn rd immH immL) = _
      rw [State.whenPassed_pass hc, storeHalfImm, State.unpredictable_ok fun h => halfPostIndexW_ok (hw h)]
      rfl
    · change st.whenPassed c (storeHalfReg p u w rn rd rm) = _
      rw [State.whenPassed_pass hc, storeHalfReg, State.unpredictable_ok fun h => halfPostIndexW_ok (hmw h).2,
        State.unpredictable_ok fun h => by simpa using (hmw h).1]
      rfl
  obtain ⟨y, hy⟩ := Sys.store_of_not_stops _ _ _ _ hstop
  refine ⟨y, hy, ?_⟩
  rw [transfer, storeTransfer_eq off hs, State.regStore_eq]
  exact State.storeReg_ok _ _ _ _ _ _ _ _ hy

/-- Settles O27: a destination other than R15 is written before the advance. -/
theorem swaps : Obligations.Swaps := by
  intro c rn rd rm st i k w hc hd hs hrow a r hstop
  obtain ⟨y, hy⟩ := Sys.store_of_not_stops _ _ _ _ hstop
  have exchange : exec i st = swap k w rn rd rm st := by
    rcases hrow with ⟨rfl, rfl, rfl⟩ | ⟨rfl, rfl, rfl⟩ <;> exact State.whenPassed_pass hc
  have loaded : st.loadValue k (st.reg rn) = (k.extract a r.1, st.withSys r.2) := by
    rcases hrow with ⟨-, rfl, rfl⟩ | ⟨-, rfl, rfl⟩ <;> rfl
  refine ⟨y, hy, ?_⟩
  rw [exchange, swap_eq_finish (fun h => ⟨(hs h).1, hd, (hs h).2⟩) (by rw [loaded]; exact hy),
    State.finish_of_ne _ _ _ hd, loaded]

end Sys2Proof.Machine
end

section
/-! PROOFS. O28, O29 (spec/43_arm_loadstore.md R367..R371, 46_thumb_mem.md R500..R504, 60_exceptions.md R557): the
registers of a block in the order of their ranks, the rows of the block transfers by plan and view, and the reads and
register writes of a load-multiple. -/

namespace Sys2Proof.Machine

open Sys2Proof

/-! ## The list of a block transfer (43_arm_loadstore.md R367, R368) -/

/-- The registers a block transfer moves: an empty list stands for R15 (43_arm_loadstore.md R368). -/
def transferList (list : BitVec 16) : BitVec 16 := if list = 0#16 then 0x8000#16 else list

theorem blockRegs_eq (list : BitVec 16) : blockRegs list = regList (transferList list) := by
  unfold blockRegs transferList
  split
  · decide
  · rfl

theorem listHasPc_eq (list : BitVec 16) : listHasPc list = (transferList list).getLsbD 15 := by
  unfold listHasPc transferList
  split
  · next h => subst h; decide
  · next h => simp [h]

theorem transferList_ne_zero (list : BitVec 16) : transferList list ≠ 0#16 := by
  unfold transferList
  split
  · decide
  · assumption

theorem mem_regList {list : BitVec 16} {r : RegNum} : r ∈ regList list ↔ list.getLsbD r.toNat = true := by
  simp only [regList, List.mem_map, List.mem_filter, List.mem_range]
  constructor
  · rintro ⟨k, ⟨hk, hl⟩, rfl⟩
    rwa [BitVec.toNat_ofNat, Nat.mod_eq_of_lt hk]
  · exact fun h => ⟨r.toNat, ⟨r.isLt, h⟩, BitVec.ofNat_toNat ..⟩

theorem regList_length (list : BitVec 16) :
    (regList list).length = ((List.range 16).filter (fun k => list.getLsbD k)).length := List.length_map ..

theorem regList_length_le (list : BitVec 16) : (regList list).length ≤ 16 := by
  rw [regList_length]
  exact List.length_filter_le ..

theorem regList_ne_nil {list : BitVec 16} (h : list ≠ 0#16) : regList list ≠ [] := by
  refine fun hn => h (BitVec.eq_of_getLsbD_eq fun k hk => ?_)
  have hr : BitVec.ofNat 4 k ∉ regList list := by rw [hn]; exact List.not_mem_nil
  rw [mem_regList, BitVec.toNat_ofNat, Nat.mod_eq_of_lt hk] at hr
  simpa using hr

/-- The plan of a block transfer in the words of the obligations. -/
theorem blockPlan_eq (p u : Bool) (base : Word) (list : BitVec 16) :
    blockPlan p u base list =
      (let size : Word := if list = 0#16 then 0x40#32
         else BitVec.ofNat 32 (4 * ((List.range 16).filter (fun k => (transferList list).getLsbD k)).length)
       { regs := regList (transferList list),
         start := if u then (if p then base + 4#32 else base) else (if p then base - size else base - size + 4#32),
         moved := if u then base + size else base - size }) := by
  have hsize : blockSize list = if list = 0#16 then 0x40#32
      else BitVec.ofNat 32 (4 * ((List.range 16).filter (fun k => (transferList list).getLsbD k)).length) := by
    unfold blockSize transferList
    split
    · rfl
    · rw [regList_length]
  simp only [blockPlan, blockRegs_eq, hsize]
  cases p <;> cases u <;> rfl

/-! ## Ranks -/

theorem length_filter_range_succ (f : Nat → Bool) (m : Nat) :
    ((List.range (m + 1)).filter f).length = ((List.range m).filter f).length + if f m then 1 else 0 := by
  rw [List.range_succ, List.filter_append, List.length_append]
  cases h : f m <;> simp [h]

/-- From register `m` on, the ranks of the listed registers count up from the number of those before. -/
theorem map_rankIn_range' (list : BitVec 16) (m n : Nat) (h : m + n ≤ 16) :
    ((((List.range' m n).filter (fun k => list.getLsbD k)).map (BitVec.ofNat 4)).map (rankIn list)) =
      List.range' ((List.range m).filter (fun k => list.getLsbD k)).length
        ((List.range' m n).filter (fun k => list.getLsbD k)).length := by
  induction n generalizing m with
  | zero => rfl
  | succ n ih =>
    have rest := ih (m + 1) (by omega)
    rw [length_filter_range_succ] at rest
    rw [List.range'_succ, List.filter_cons]
    cases hm : list.getLsbD m with
    | false => simpa [hm] using rest
    | true =>
      have rank : rankIn list (BitVec.ofNat 4 m) = ((List.range m).filter (fun k => list.getLsbD k)).length := by
        rw [rankIn, BitVec.toNat_ofNat, Nat.mod_eq_of_lt (by omega)]
      simpa [hm, List.range'_succ, rank] using rest

/-- The ranks of the registers of a list, in ascending order (43_arm_loadstore.md R367). -/
theorem map_rankIn_regList (list : BitVec 16) :
    (regList list).map (rankIn list) = List.range' 0 (regList list).length := by
  have h := map_rankIn_range' list 0 16 (by decide)
  rw [← List.range_eq_range'] at h
  rw [regList_length]
  exact h

/-! ## The reads of a load-multiple -/

/-- No word read depends on the cycles charged (20_memory.md R106). -/
theorem Sys.blockWord_paid (y : Sys) (n : Nat) (start : Word) (list : BitVec 16) (r : RegNum) :
    (y.paid n).blockWord start list r = y.blockWord start list r := rfl

theorem Sys.paid_paid (y : Sys) (m n : Nat) : (y.paid m).paid n = y.paid (m + n) := by
  simp only [Sys.paid, Nat.add_assoc]

/-- A charged read outside the EEPROM window. -/
theorem Sys.load_plain {y : Sys} {w : Width} {a : Word} (kind : Access) (h : y.inEepromWindow (w.align a) = false) :
    y.load kind w a = (y.peekAligned w (w.align a), y.paid (accessCost y.waitcnt kind w a)) :=
  if_neg (Bool.eq_false_iff.1 h)

theorem blockPlace_next (start : Word) (k : Nat) :
    start + BitVec.ofNat 32 (4 * k) + 4#32 = start + BitVec.ofNat 32 (4 * (k + 1)) := by
  rw [BitVec.add_assoc, Nat.mul_succ, BitVec.ofNat_add]

/-- The reads of registers of consecutive ranks, the accesses of the given classes, sequential after the first. -/
theorem Sys.loadBlock_ranked {list : BitVec 16} {start : Word} {rs : List RegNum} {k : Nat} {kinds : Nat → Access}
    {y : Sys} (hr : rs.map (rankIn list) = List.range' k rs.length) (hs : ∀ j, k < j → kinds j = .seq)
    (hw : ∀ j, j < k + rs.length → y.inEepromWindow (Width.word.align (start + BitVec.ofNat 32 (4 * j))) = false) :
    y.loadBlock (kinds k) (start + BitVec.ofNat 32 (4 * k)) rs =
      (rs.map (fun r => (r, y.blockWord start list r)),
        y.paid ((List.range' k rs.length).map (fun j =>
          accessCost y.waitcnt (kinds j) .word (start + BitVec.ofNat 32 (4 * j)))).sum) := by
  induction rs generalizing k y with
  | nil => rfl
  | cons r rs ih =>
    simp only [List.map_cons, List.length_cons, List.range'_succ, List.cons.injEq] at hr
    obtain ⟨hk, hrest⟩ := hr
    have first := Sys.load_plain (kinds k) (hw k (by simp))
    have rest := ih (y := y.paid (accessCost y.waitcnt (kinds k) .word (start + BitVec.ofNat 32 (4 * k)))) hrest
      (fun j hj => hs j (by omega)) (fun j hj => hw j (by simp only [List.length_cons]; omega))
    rw [hs (k + 1) k.lt_succ_self] at rest
    simp only [Sys.loadBlock, first, blockPlace_next, rest, List.length_cons, List.range'_succ, List.map_cons,
      List.sum_cons, Sys.paid_paid, Sys.blockWord_paid]
    rw [Sys.blockWord, blockAddress, hk]
    rfl

theorem Sys.not_window_of_blockPlain {y : Sys} {start : Word} {n : Nat} (h : y.blockPlain start n = true) :
    ∀ j, j < n → y.inEepromWindow (Width.word.align (start + BitVec.ofNat 32 (4 * j))) = false := by
  simpa [Sys.blockPlain] using h

/-- The reads of a load-multiple outside the EEPROM window: each register its word, one N access and the rest S
(R367). -/
theorem Sys.loadBlock_regList {y : Sys} {start : Word} {list : BitVec 16}
    (h : y.blockPlain start (regList list).length = true) :
    y.loadBlock .nonseq start (regList list) =
      ((regList list).map (fun r => (r, y.blockWord start list r)),
        y.paid (blockCost y.waitcnt start (regList list).length)) := by
  have hread := Sys.loadBlock_ranked (kinds := fun j => if j = 0 then .nonseq else .seq) (map_rankIn_regList list)
    (fun j hj => if_neg hj.ne') (by simpa using Sys.not_window_of_blockPlain h)
  rwa [Nat.mul_zero, BitVec.add_zero, ← List.range_eq_range'] at hread

/-! ## The registers of a load-multiple -/

theorem Cpu.eq_withRegs {c d : Cpu} (hc : c.cpsr = d.cpsr) (hs : c.spsr = d.spsr) (hpc : c.pc = d.pc)
    (h0 : c.pipe0 = d.pipe0) (h1 : c.pipe1 = d.pipe1) : c = { d with regs := c.regs } := by
  cases c; cases hc; cases hs; cases hpc; cases h0; cases h1; rfl

/-- The base written back leaves every other register (R352). -/
theorem State.writeBack_regs_other {wb : Bool} {rn : RegNum} {s : State} {k : Fin 30} (moved : Word)
    (h : wb = true → rn ≠ 15#4 → k ≠ physIndex s.cpu.bank rn) :
    (s.writeBack wb rn moved).cpu.regs[k] = s.cpu.regs[k] := by
  cases wb with
  | false => rfl
  | true =>
    by_cases h15 : rn = 15#4
    · rw [h15, State.writeBack, if_pos rfl, State.setReg_pc]
    · exact Cpu.setBankReg_regs_other s.cpu _ rn moved k (h rfl h15)

/-- A loaded register has its value, whatever is loaded before and after it. -/
theorem State.writeLoaded_bankReg {b : Bank} {f : RegNum → Word} {rs : List RegNum} {r : RegNum} (s : State)
    (hr : r ∈ rs) (h15 : r ≠ 15#4) : (s.writeLoaded b (rs.map fun r => (r, f r))).cpu.bankReg b r = f r := by
  induction rs generalizing s with
  | nil => cases hr
  | cons r' rs ih =>
    by_cases hm : r ∈ rs
    · exact ih _ hm
    · obtain rfl := (List.mem_cons.1 hr).resolve_right hm
      refine (State.writeLoaded_regs_other b (rs.map fun r => (r, f r)) (s.setRegIn b r (f r)) _ fun x hx => ?_).trans
        (Cpu.bankReg_setBankReg_same s.cpu b r (f r) h15)
      obtain ⟨r', hr', rfl⟩ := List.mem_map.1 hx
      by_cases h15' : r' = 15#4
      · exact .inl h15'
      · exact .inr fun e => hm (physIndex_injective b r r' h15 h15' e ▸ hr')

theorem loadedPc_map (f : RegNum → Word) (rs : List RegNum) :
    loadedPc (rs.map fun r => (r, f r)) = if 15#4 ∈ rs then some (f 15#4) else none := by
  induction rs with
  | nil => rfl
  | cons r rs ih =>
    by_cases h : r = 15#4
    · simp [loadedPc, h]
    · simpa [loadedPc, h, Ne.symm h] using ih

/-- The writes of the loaded registers leave every place that is none of theirs. -/
theorem State.writeLoaded_unlisted {b : Bank} {list : BitVec 16} {k : Fin 30} (f : RegNum → Word) (s : State)
    (hk : ∀ r : RegNum, r ≠ 15#4 → list.getLsbD r.toNat = true → k ≠ physIndex b r) :
    (s.writeLoaded b ((regList list).map fun r => (r, f r))).cpu.regs[k] = s.cpu.regs[k] := by
  refine State.writeLoaded_regs_other b _ s k fun x hx => ?_
  obtain ⟨r, hr, rfl⟩ := List.mem_map.1 hx
  exact or_iff_not_imp_left.2 fun h15 => hk r h15 (mem_regList.1 hr)

/-- The state of a load-multiple before R15 is written (R367). -/
def State.blockLoaded (b : Bank) (plan : BlockPlan) (wb : Bool) (rn : RegNum) (s : State) : State :=
  let r := s.sys.loadBlock .nonseq plan.start plan.regs
  (((s.withSys r.2).writeBack wb rn plan.moved).writeLoaded b r.1).internal 1

section
variable {b : Bank} {start moved : Word} {list : BitVec 16} {wb : Bool} {rn : RegNum} {s : State}
  (h : s.sys.blockPlain start (regList list).length = true)
include h

theorem State.blockLoaded_loadedFrom : LoadedFrom b start moved list (regList list).length wb rn s
    (s.blockLoaded b { regs := regList list, start := start, moved := moved } wb rn) := by
  unfold State.blockLoaded
  simp only [Sys.loadBlock_regList h]
  set t := (s.withSys (s.sys.paid (blockCost s.sys.waitcnt start (regList list).length))).writeBack wb rn moved with ht
  obtain ⟨hsys, hcpsr, hspsr, hpc, hpipe0, hpipe1⟩ :=
    State.writeLoaded_rest b ((regList list).map fun r => (r, s.sys.blockWord start list r)) t
  constructor
  case loaded => exact fun r h15 hr => State.writeLoaded_bankReg t (mem_regList.2 hr) h15
  case base =>
    rintro rfl h15 hk
    exact (State.writeLoaded_unlisted _ t fun r hr hl => (hk r hr hl).symm).trans
      (Cpu.bankReg_setBankReg_same s.cpu _ rn moved h15)
  case others => exact fun k hk hb => (State.writeLoaded_unlisted _ t hk).trans (State.writeBack_regs_other moved hb)
  case rest =>
    exact Cpu.eq_withRegs (hcpsr.trans (by simp [ht])) (hspsr.trans (by simp [ht])) (hpc.trans (by simp [ht]))
      (hpipe0.trans (by simp [ht])) (hpipe1.trans (by simp [ht]))
  case system => rw [State.internal_sys, hsys, ht, State.writeBack_sys, State.withSys_sys]; rfl

/-- A load-multiple outside the EEPROM window: R15, when it is loaded, is a branch, after the CPSR is restored when
`restore` says so (R367, R370). -/
theorem State.loadMultiple_of_plain (restore : Bool) :
    s.loadMultiple b { regs := regList list, start := start, moved := moved } wb rn restore =
      (let t := s.blockLoaded b { regs := regList list, start := start, moved := moved } wb rn
       if list.getLsbD 15 = true then
         if restore then orFault t.restoreCpsr fun u => .next (u.branch (s.sys.blockWord start list 15#4))
         else .next (t.branch (s.sys.blockWord start list 15#4))
       else .next t.advance) := by
  have hp : loadedPc (s.sys.loadBlock .nonseq start (regList list)).1 =
      if list.getLsbD 15 = true then some (s.sys.blockWord start list 15#4) else none := by
    rw [Sys.loadBlock_regList h, loadedPc_map]
    simp only [mem_regList]
    rfl
  unfold State.loadMultiple State.blockLoaded
  simp only [hp]
  cases list.getLsbD 15 <;> rfl

end

section
variable {b : Bank} {start moved : Word} {list : BitVec 16} {n : Nat} {wb : Bool} {rn : RegNum} {s t : State}

theorem LoadedFrom.currentSpsr (h : LoadedFrom b start moved list n wb rn s t) :
    t.cpu.currentSpsr = s.cpu.currentSpsr := by
  rw [h.rest]
  rfl

theorem LoadedFrom.cpsr (h : LoadedFrom b start moved list n wb rn s t) : t.cpu.cpsr = s.cpu.cpsr := by rw [h.rest]

/-- A load-multiple outside the EEPROM window that restores the CPSR from a valid SPSR, or keeps it (R367, R370). -/
theorem State.loadMultiple_eq {restore : Bool} {q : Psr}
    (hq : restore = true → s.cpu.currentSpsr = some q ∧ modeValid q.m = true) (hk : restore = false → q = s.cpu.cpsr)
    (h : s.sys.blockPlain start (regList list).length = true) :
    ∃ t, LoadedFrom b start moved list (regList list).length wb rn s t ∧
      s.loadMultiple b { regs := regList list, start := start, moved := moved } wb rn restore =
        .next (if list.getLsbD 15 = true then State.branch (s.sys.blockWord start list 15#4) (t.setCpsr q)
          else t.advance) := by
  have loaded := State.blockLoaded_loadedFrom (b := b) (moved := moved) (wb := wb) (rn := rn) h
  refine ⟨_, loaded, ?_⟩
  rw [State.loadMultiple_of_plain h]
  dsimp only
  cases restore with
  | false =>
    rw [hk rfl, ← loaded.cpsr]
    cases list.getLsbD 15 <;> rfl
  | true =>
    rw [State.restoreCpsr_some (loaded.currentSpsr.trans (hq rfl).1), if_pos (hq rfl).2]
    cases list.getLsbD 15 <;> rfl

end

/-! ## The rows of the block transfers (43_arm_loadstore.md R370, R371) -/

section
variable {load p u wb : Bool} {rn : RegNum} {list : BitVec 16} {st : State}

theorem blockTransfer_eq (h : st.strict = true → rn ≠ 15#4) :
    blockTransfer load p u wb rn list st =
      if load then st.loadMultiple st.cpu.bank (st.plan p u rn list) wb rn false
      else st.storeMultiple st.cpu.bank (st.plan p u rn list) wb rn :=
  State.unpredictable_ok fun hs => by simpa using h hs

/-- With `S = 1` in a mode without an SPSR, where that is emulated: as with `S = 0`. -/
theorem blockTransferS_of_noSpsr (hn : st.cpu.noSpsr = true) (hs : st.strict = false) :
    blockTransferS load p u wb rn list st = blockTransfer load p u wb rn list st := by
  rw [blockTransferS, State.unpredictable_ok (by simp [hs]), if_pos hn]

theorem blockTransferS_of_spsr (hn : st.cpu.noSpsr = false) (h : st.strict = true → rn ≠ 15#4) :
    blockTransferS load p u wb rn list st = blockTransferPrivileged load p u wb rn list st := by
  rw [blockTransferS, State.unpredictable_ok fun _ => hn, hn, if_neg Bool.false_ne_true,
    State.unpredictable_ok fun hs => by simpa using h hs]

/-- A transfer of the User bank: in User and System mode that is the current one. -/
theorem blockTransferS_user (hp : (load && listHasPc list) = false)
    (h : st.strict = true → rn ≠ 15#4 ∧ wb = false ∧ st.cpu.bank ≠ .usr) :
    blockTransferS load p u wb rn list st =
      if load then st.loadMultiple .usr (st.plan p u rn list) wb rn false
      else st.storeMultiple .usr (st.plan p u rn list) wb rn := by
  cases hn : st.cpu.noSpsr with
  | false =>
    rw [blockTransferS_of_spsr hn fun hs => (h hs).1, blockTransferPrivileged, hp, if_neg Bool.false_ne_true,
      State.unpredictable_ok fun hs => (h hs).2.1]
  | true =>
    have hb : st.cpu.bank = .usr := eq_of_beq hn
    have hs : st.strict = false := Bool.eq_false_iff.2 fun hs => (h hs).2.2 hb
    rw [blockTransferS_of_noSpsr hn hs, blockTransfer_eq (by simp [hs]), hb]

/-- The load of R15 with `S = 1` in a mode that has an SPSR. -/
theorem blockTransferS_return (hn : st.cpu.noSpsr = false) (hp : listHasPc list = true)
    (h : st.strict = true → rn ≠ 15#4) :
    blockTransferS true p u wb rn list st = st.loadMultiple st.cpu.bank (st.plan p u rn list) wb rn true := by
  rw [blockTransferS_of_spsr hn h, blockTransferPrivileged, hp]
  rfl

end

/-- Settles O29: each row is a load-multiple of its plan, which restores the CPSR where the row returns from an
exception. -/
theorem loadMultiples : Obligations.LoadMultiples := by
  intro c p u wb r rn rb list l8 st i b q hc
  refine ⟨?loads, fun hpc hq hm hs => ?invalid⟩
  case loads =>
    intro full hrow n size base start moved
    have hplan : blockPlan p u base list = { regs := regList full, start := start, moved := moved } :=
      blockPlan_eq p u base list
    have hn : n = (regList full).length := (regList_length full).symm
    have hfull : listHasPc list = full.getLsbD 15 := listHasPc_eq list
    obtain ⟨restore, hexec, hreturn, hkeep⟩ : ∃ restore,
        exec i st = st.loadMultiple b (blockPlan p u base list) wb rn restore ∧
        (restore = true → st.cpu.currentSpsr = some q ∧ modeValid q.m = true) ∧
        (restore = false → q = st.cpu.cpsr) := by
      rcases hrow with ⟨rfl, rfl, hq, hs⟩ | ⟨rfl, hpc, rfl, hq, hs⟩ | ⟨rfl, hpc, rfl, hq, hm, hs⟩ |
        ⟨rfl, -, rfl, hnone, hq, hs⟩ | ⟨rfl, rfl, hq, rfl, rfl, rfl, rfl, rfl⟩ | ⟨rfl, rfl, hq, rfl, rfl, rfl, rfl, rfl⟩
      · exact ⟨false, (State.whenPassed_pass hc).trans (blockTransfer_eq hs), nofun, fun _ => hq⟩
      · exact ⟨false, (State.whenPassed_pass hc).trans (blockTransferS_user (by rw [hfull, hpc]; rfl) hs), nofun,
          fun _ => hq⟩
      · exact ⟨true, (State.whenPassed_pass hc).trans
          (blockTransferS_return (Cpu.noSpsr_of_currentSpsr hq) (hfull.trans hpc) hs), fun _ => ⟨hq, hm⟩, nofun⟩
      · exact ⟨false, (State.whenPassed_pass hc).trans
          ((blockTransferS_of_noSpsr ((Cpu.currentSpsr_eq_none_iff _).1 hnone) hs).trans
            (blockTransfer_eq (by simp [hs]))), nofun, fun _ => hq⟩
      · exact ⟨false, rfl, nofun, fun _ => hq⟩
      · exact ⟨false, rfl, nofun, fun _ => hq⟩
    rw [hexec]
    refine ⟨State.loadMultiple_next _ _ _ _ _ _ fun hr => ⟨q, hreturn hr⟩, fun hplain => ?_⟩
    rw [hn] at hplain ⊢
    rw [hplan]
    exact State.loadMultiple_eq hreturn hkeep hplain
  case invalid =>
    have hlist : listHasPc list = true := by simpa [listHasPc] using hpc
    have hregs : 15#4 ∈ (st.plan p u rn list).regs := by
      change 15#4 ∈ blockRegs list
      rw [blockRegs_eq, mem_regList]
      exact (listHasPc_eq list).symm.trans hlist
    exact (State.whenPassed_pass hc).trans ((blockTransferS_return (Cpu.noSpsr_of_currentSpsr hq) hlist hs).trans
      (State.loadMultiple_invalidMode _ _ _ _ _ q hq hm hregs))

end Sys2Proof.Machine
end

section
/-! PROOFS. O28 (spec/43_arm_loadstore.md R367..R371, 46_thumb_mem.md R500, R502, R504): the writes of a block complete
outside the I/O region, and in IWRAM each leaves the words of the others. -/

namespace Sys2Proof.Machine

open Sys2Proof

/-! ## Completion (20_memory.md R107) -/

theorem ne_io_of_blockOutsideIo {start : Word} {n : Nat} (h : blockOutsideIo start n = true) :
    ∀ j, j < n → Region.of (Width.word.align (start + BitVec.ofNat 32 (4 * j))) ≠ .io := by
  simpa [blockOutsideIo] using h

theorem State.storeBlock_completes {b : Bank} {start : Word} {rs : List RegNum} {k : Nat} {kind : Access} {s : State}
    (h : ∀ j, j < k + rs.length → Region.of (Width.word.align (start + BitVec.ofNat 32 (4 * j))) ≠ .io) :
    ∃ y, s.storeBlock b kind (start + BitVec.ofNat 32 (4 * k)) rs = .ok (s.withSys y) := by
  induction rs generalizing k kind s with
  | nil => exact ⟨s.sys, rfl⟩
  | cons r rs ih =>
    obtain ⟨z, hz⟩ : ∃ z, s.sys.store kind .word (start + BitVec.ofNat 32 (4 * k)) (s.regIn b s.pcStore r) = .ok z :=
      Sys.memWrite_completes _ _ (h k (by simp))
    obtain ⟨y, hy⟩ := ih (k := k + 1) (kind := .seq) (s := s.withSys z)
      fun j hj => h j (by simp only [List.length_cons]; omega)
    refine ⟨y, ?_⟩
    simp only [State.storeBlock, hz, blockPlace_next, hy]
    rfl

/-! ## The words of a block in IWRAM (20_memory.md R101, R109) -/

/-- The words `0` to `n - 1` from `start` on, at most sixteen, lie in IWRAM. -/
structure InIwram (start : Word) (n : Nat) : Prop where
  lower : 0x03000000 ≤ start.toNat
  upper : start.toNat + 4 * n ≤ 0x04000000
  count : n ≤ 16

section
variable {start : Word} {n i j : Nat} (h : InIwram start n)
include h

theorem InIwram.toNat_word (hj : j < n) : (start + BitVec.ofNat 32 (4 * j)).toNat = start.toNat + 4 * j := by
  have := h.upper
  rw [BitVec.toNat_add, BitVec.toNat_ofNat]
  omega

theorem InIwram.ramAt (hj : j < n) : RamAt (start + BitVec.ofNat 32 (4 * j)) 0x03000000 0x8000 := by
  have hk : (start + BitVec.ofNat 32 (4 * j)).toNat / 0x1000000 = 3 := by
    have := h.lower
    have := h.upper
    rw [h.toNat_word hj]
    omega
  exact .inr ⟨by simp only [Region.of, hk], rfl, rfl⟩

/-- A charged store of a word of the block. -/
theorem InIwram.store (hj : j < n) (y : Sys) (kind : Access) (v : Word) :
    y.store kind .word (start + BitVec.ofNat 32 (4 * j)) v =
      .ok ((y.paid (accessCost y.waitcnt kind .word (start + BitVec.ofNat 32 (4 * j)))).withMem
        (Memory.writeLE y.mem .word (0x03000000 + (start.toNat + 4 * j) / 4 * 4 % 0x8000) v)) := by
  rw [← h.toNat_word hj]
  exact (h.ramAt hj).memWrite _ .word v

theorem InIwram.memRead (hj : j < n) (y : Sys) :
    (y.memRead .word (start + BitVec.ofNat 32 (4 * j))).1 =
      Memory.readLE y.mem .word (0x03000000 + (start.toNat + 4 * j) / 4 * 4 % 0x8000) := by
  rw [← h.toNat_word hj, (h.ramAt hj).memRead]
  rfl

/-- A word of the block after it is stored. -/
theorem InIwram.memRead_store_same {y z : Sys} {kind : Access} {v : Word} (hj : j < n)
    (hz : y.store kind .word (start + BitVec.ofNat 32 (4 * j)) v = .ok z) :
    (z.memRead .word (start + BitVec.ofNat 32 (4 * j))).1 = v := by
  rw [h.store hj] at hz
  cases hz
  rw [h.memRead hj]
  exact Memory.readLE_writeLE_same y.mem .word _ v

/-- A word of the block after a later one is stored: sixteen words do not reach its mirror. -/
theorem InIwram.memRead_store_later {y z : Sys} {kind : Access} {v : Word} (hi : i < j) (hj : j < n)
    (hz : y.store kind .word (start + BitVec.ofNat 32 (4 * j)) v = .ok z) :
    (z.memRead .word (start + BitVec.ofNat 32 (4 * i))).1 = (y.memRead .word (start + BitVec.ofNat 32 (4 * i))).1 := by
  rw [h.store hj] at hz
  cases hz
  rw [h.memRead (hi.trans hj), h.memRead (hi.trans hj)]
  have := h.count
  exact Memory.readLE_writeLE_other y.mem .word .word _ _ v (by simp only [Width.bytes]; omega)

/-- The words of registers of consecutive ranks after their stores, and the words before them. -/
theorem InIwram.storeBlock_ranked {b : Bank} {list : BitVec 16} {rs : List RegNum} {k : Nat} {kind : Access}
    {s t : State} (hr : rs.map (rankIn list) = List.range' k rs.length) (hk : k + rs.length ≤ n)
    (ht : s.storeBlock b kind (start + BitVec.ofNat 32 (4 * k)) rs = .ok t) :
    (∀ r ∈ rs, (t.sys.memRead .word (blockAddress start list r)).1 = s.regIn b s.pcStore r) ∧
      ∀ i < k, (t.sys.memRead .word (start + BitVec.ofNat 32 (4 * i))).1 =
        (s.sys.memRead .word (start + BitVec.ofNat 32 (4 * i))).1 := by
  induction rs generalizing k kind s with
  | nil => cases ht; exact ⟨nofun, fun _ _ => rfl⟩
  | cons r rs ih =>
    simp only [List.map_cons, List.length_cons, List.range'_succ, List.cons.injEq] at hr hk
    obtain ⟨hrank, hrest⟩ := hr
    simp only [State.storeBlock] at ht
    split at ht
    next z hz =>
      rw [blockPlace_next] at ht
      obtain ⟨listed, earlier⟩ := ih hrest (by omega) ht
      refine ⟨fun r' hr' => ?_, fun i hi => ?_⟩
      · rcases List.mem_cons.1 hr' with rfl | hr'
        · rw [blockAddress, hrank, earlier k k.lt_succ_self]
          exact h.memRead_store_same (by omega) hz
        · exact listed r' hr'
      · exact (earlier i (by omega)).trans (h.memRead_store_later hi (by omega) hz)
    next => cases ht

end

/-! ## The base written back within the block (43_arm_loadstore.md R369) -/

/-- What a store of a register of a view stores once the base is written back. -/
theorem State.writeBack_regIn (b : Bank) (wb : Bool) (rn j : RegNum) (moved : Word) (s : State) :
    (s.writeBack wb rn moved).regIn b (s.writeBack wb rn moved).pcStore j =
      if j = 15#4 then s.pcStore
      else if wb = true ∧ rn ≠ 15#4 ∧ physIndex b j = physIndex s.cpu.bank rn then moved
      else s.cpu.bankReg b j := by
  have hpc : (s.writeBack wb rn moved).pcStore = s.pcStore := by
    simp only [State.pcStore, State.pcRead, State.writeBack_cpu_pc, State.writeBack_cpu_cpsr]
  rw [State.regIn, hpc]
  congr 1
  split
  next hm =>
    obtain ⟨rfl, h15, hp⟩ := hm
    simp only [Cpu.bankReg, hp]
    exact Cpu.bankReg_setBankReg_same s.cpu _ rn moved h15
  next hm => exact State.writeBack_regs_other moved fun hw h15 hp => hm ⟨hw, h15, hp⟩

theorem State.writeBack_advance_cpu (wb : Bool) (rn : RegNum) (moved : Word) (s : State) :
    (s.writeBack wb rn moved).advance.cpu =
      { s.cpu.based (wb && rn != 15#4) rn moved with pc := s.cpu.pc + widthOf s.cpu.cpsr.t } := by
  rw [State.advance, State.writeBack_cpu_pc, State.writeBack_cpu_cpsr, State.writeBack_eq]

/-- The words of a block in IWRAM after the first store, the write-back and the other stores: the base as it was when it
is the first and as moved otherwise (R369). -/
theorem InIwram.storedWords {b : Bank} {start moved : Word} {list : BitVec 16} {wb : Bool} {rn r j : RegNum}
    {rest : List RegNum} {s t : State} {y : Sys} (h : InIwram start (r :: rest).length)
    (hr : (r :: rest).map (rankIn list) = List.range' 0 (r :: rest).length) (hj : j ∈ r :: rest)
    (hy : s.storeBlock b .nonseq (start + BitVec.ofNat 32 (4 * 0)) [r] = .ok (s.withSys y))
    (ht : ((s.withSys y).writeBack wb rn moved).storeBlock b .seq (start + BitVec.ofNat 32 (4 * 1)) rest = .ok t) :
    (t.sys.memRead .word (blockAddress start list j)).1 =
      if j = 15#4 then s.pcStore
      else if wb = true ∧ rn ≠ 15#4 ∧ physIndex b j = physIndex s.cpu.bank rn ∧ rankIn list j ≠ 0 then moved
      else s.cpu.bankReg b j := by
  simp only [List.map_cons, List.length_cons, List.range'_succ, List.cons.injEq] at hr
  obtain ⟨hfirst, hrest⟩ := hr
  obtain ⟨first, -⟩ := h.storeBlock_ranked (rs := [r]) (by simpa using hfirst) (by simp) hy
  obtain ⟨listed, kept⟩ := h.storeBlock_ranked hrest (by simp only [List.length_cons]; omega) ht
  rcases List.mem_cons.1 hj with rfl | hj
  · have hstored := first j (List.mem_singleton_self j)
    have hkept := kept 0 Nat.zero_lt_one
    rw [State.writeBack_sys] at hkept
    rw [blockAddress, hfirst] at hstored ⊢
    simp only [hkept, hstored, ne_eq, not_true_eq_false, and_false, if_false]
    rfl
  · have hrank : rankIn list j ≠ 0 := by
      have := List.mem_range'_1.1 (hrest ▸ List.mem_map_of_mem hj)
      omega
    rw [listed j hj, State.writeBack_regIn]
    simp only [hrank, ne_eq, not_false_eq_true, and_true]
    rfl

/-- A store-multiple outside the I/O region (R367, R369). -/
theorem State.storeMultiple_eq {b : Bank} {start moved : Word} {list : BitVec 16} {wb : Bool} {rn : RegNum} {s : State}
    (hl : list ≠ 0#16) (hio : blockOutsideIo start (regList list).length = true) :
    ∃ t, s.storeMultiple b { regs := regList list, start := start, moved := moved } wb rn = .next t ∧
      t.cpu = { s.cpu.based (wb && rn != 15#4) rn moved with pc := s.cpu.pc + widthOf s.cpu.cpsr.t } ∧
      (InIwram start (regList list).length → ∀ j ∈ regList list,
        (t.sys.memRead .word (blockAddress start list j)).1 =
          if j = 15#4 then s.pcStore
          else if wb = true ∧ rn ≠ 15#4 ∧ physIndex b j = physIndex s.cpu.bank rn ∧ rankIn list j ≠ 0 then moved
          else s.cpu.bankReg b j) := by
  obtain ⟨r, rest, hregs⟩ := List.exists_cons_of_ne_nil (regList_ne_nil hl)
  have hranks := map_rankIn_regList list
  have hout := ne_io_of_blockOutsideIo hio
  rw [hregs] at hranks hout ⊢
  obtain ⟨y1, hy1⟩ := State.storeBlock_completes (b := b) (k := 0) (rs := [r]) (kind := .nonseq) (s := s)
    fun j hj => hout j (by simp only [List.length_cons, List.length_nil] at hj ⊢; omega)
  obtain ⟨y2, hy2⟩ := State.storeBlock_completes (b := b) (k := 1) (rs := rest) (kind := .seq)
    (s := (s.withSys y1).writeBack wb rn moved) fun j hj => hout j (by simp only [List.length_cons]; omega)
  refine ⟨(((s.withSys y1).writeBack wb rn moved).withSys y2).advance, ?_,
    State.writeBack_advance_cpu wb rn moved (s.withSys y1), fun h j hj => (h.storedWords hranks hj hy1 hy2 :)⟩
  have hfirst : s.storeBlock b .nonseq start [r] = .ok (s.withSys y1) := by
    rwa [Nat.mul_zero, BitVec.add_zero] at hy1
  have hrest : ((s.withSys y1).writeBack wb rn moved).storeBlock b .seq (start + 4#32) rest = _ := hy2
  simp only [State.storeMultiple, hfirst, orFault_ok, hrest]

/-- Settles O28: each row is a store-multiple of its plan. -/
theorem storeMultiples : Obligations.StoreMultiples := by
  intro c p u wb r rn rb list l8 st i b start moved hc hrow full n size base hstart hmoved hio
  have hplan : blockPlan p u base list = { regs := regList full, start := start, moved := moved } := by
    rw [hstart, hmoved]
    exact blockPlan_eq p u base list
  have hn : n = (regList full).length := (regList_length full).symm
  have hexec : exec i st = st.storeMultiple b (blockPlan p u base list) wb rn := by
    rcases hrow with ⟨rfl, rfl, hs⟩ | ⟨rfl, rfl, hs⟩ | ⟨rfl, rfl, rfl, rfl, rfl, rfl, rfl⟩ |
      ⟨rfl, rfl, rfl, rfl, rfl, rfl, rfl⟩
    · exact (State.whenPassed_pass hc).trans (blockTransfer_eq hs)
    · exact (State.whenPassed_pass hc).trans (blockTransferS_user rfl hs)
    · rfl
    · rfl
  obtain ⟨t, ht, hcpu, hwords⟩ := State.storeMultiple_eq (b := b) (moved := moved) (wb := wb) (rn := rn) (s := st)
    (transferList_ne_zero list) (hn ▸ hio)
  refine ⟨t, by rw [hexec, hplan]; exact ht, hcpu, fun hlower hupper j hj => ?_⟩
  rw [hn] at hupper
  exact hwords ⟨hlower, hupper, regList_length_le full⟩ j (mem_regList.2 hj)

end Sys2Proof.Machine
end

section
/-! PROOFS. O32 (spec/44_arm_system.md R400..R405, 47_thumb_branch.md R531, 60_exceptions.md R559, R560): SWI and the
undefined and coprocessor rows are exception entries behind their conditions. -/

namespace Sys2Proof.Machine

open Sys2Proof

theorem Effects.ne_traps_of_spsr {e : Effects} (h : e.spsr = false) : e ≠ .traps := by
  rintro rfl
  cases h

theorem Effects.ne_traps_of_thumb {e : Effects} (h : e.thumb = false) : e ≠ .traps := by
  rintro rfl
  cases h

theorem effects_of_raisesUndefined {i : Instr} (h : i.raisesUndefined = true) : i.effects = .traps := by
  unfold Instr.raisesUndefined at h
  split at h
  case h_1 | h_2 => cases h
  case h_3 => exact beq_iff_eq.1 h

theorem exec_of_raisesSwi {i : Instr} {s : State} (h : i.raisesSwi = true) :
    exec i s = s.whenPassed (instrCond i) fun t => .next t.takeSwi := by
  unfold Instr.raisesSwi at h
  split at h
  case h_1 | h_2 => rfl
  case h_3 => cases h

/-- Only an exception entry writes both T and an SPSR: MSR leaves T, and the others leave the SPSRs (10_state.md R57,
R63..R65). -/
theorem exec_of_raisesUndefined {i : Instr} {s : State} (h : i.raisesUndefined = true) :
    exec i s = s.whenPassed (instrCond i) fun t => .next t.takeUndefined := by
  have htraps := effects_of_raisesUndefined h
  cases i
  case swi | tSwi => cases h
  case ldcStc | cdp | mrcMcr | undefMul00001 | undefMul00011 | undefSwpX1 | undefSwp10 | undefLdrdStrd | undefMiscBx00 |
      undefMiscBx10 | undefMiscBx11 | undefMisc01xx | undefMisc001x | undefMisc1xx0 | undefMovStatus | undefMedia |
      tUndef10110001 | tUndef1011001x | tUndef1011011x | tUndef101110xx | tUndef1011111x | tUndef11011110 |
      tUndef11101 =>
    rfl
  case msrReg | msrImm => exact absurd htraps (Effects.ne_traps_of_thumb rfl)
  all_goals exact absurd htraps (Effects.ne_traps_of_spsr rfl)

theorem State.takeUndefined_eq (s : State) :
    s.takeUndefined =
      { s with sys := s.sys.paid 1 }.enterException .undefinedInstruction (s.cpu.pc + widthOf s.cpu.cpsr.t) := rfl

/-- Settles O32: behind a condition that passes stands the exception entry. -/
theorem trapInstructions : Obligations.TrapInstructions := by
  intro i st hc
  refine ⟨fun h => ?_, fun h => ?_⟩
  · rw [exec_of_raisesSwi h, State.whenPassed_pass hc, State.takeSwi]
  · rw [exec_of_raisesUndefined h, State.whenPassed_pass hc, State.takeUndefined_eq]

end Sys2Proof.Machine
end

section
/-! PROOFS. O35, O36 (spec/45_thumb_alu.md R420..R463): a THUMB operation is the flag-setting form of its ARM
equivalent with a low register as destination, and the hi-register operations are the shared write of a result. -/

namespace Sys2Proof.Machine

open Sys2Proof

/-! ## Formats 1 to 4 (R420..R455) -/

theorem scaled_zero {n : Nat} (v : BitVec n) : scaled v 0 = v.zeroExtend 32 := BitVec.shiftLeft_zero _

section
variable (op : DpOp) (rs rd : LowReg) (a b : Word) (sc : Bool) (st : State)

/-- A low register is never R15, so neither the branch nor the return of the ARM form arises. -/
theorem thumbAlu_eq_dataProcessing : thumbAlu op rd a b sc st = dataProcessing op true (lowReg rd) a b sc st := by
  simp [thumbAlu, dataProcessing, lowReg_ne_pc]

theorem thumbAlu_eq : thumbAlu op rd a b sc st = .next (st.thumbDone op rd a b sc) :=
  (thumbAlu_eq_dataProcessing op rd a b sc st).trans
    (dataProcessing_of_ne op true (lowReg rd) a b sc st fun _ => lowReg_ne_pc rd)

theorem thumbAlu_immediate {n : Nat} (v : BitVec n) :
    thumbAlu op rd a (scaled v 0) sc st = .next (st.thumbDone op rd a (v.zeroExtend 32) sc) := by
  rw [scaled_zero, thumbAlu_eq]

/-- The multiplier cycles come from the old `Rd`, and only N and Z are set (R453). -/
theorem thumbMultiply_eq : thumbMultiply rs rd st =
    (let r := st.reg (lowReg rs) * st.reg (lowReg rd)
     .next { cpu := st.cpu.wrote (lowReg rd) r (st.cpu.cpsr.setNz r),
             sys := st.sys.paid (multiplierCycles true (st.reg (lowReg rd))) }) :=
  (multiply_eq_finish true (lowReg rd) (lowReg rd) (lowReg rs) 0#32 0 st (BitVec.add_zero _)).trans
    (congrArg _ (State.setCpsr_finish_of_ne (Psr.flagsWhen_m ..) _ (Psr.flagsWhen_t ..) (lowReg_ne_pc rd)))

end

/-- Settles O35: each row is the operation of its ARM equivalent on low registers, or the multiply of two of them. -/
theorem thumbAlu_effects : Obligations.ThumbAlu := by
  intro rn rs rd n n3 v st x c shifted turned st1
  have format1 (t : ShiftKind) := thumbAlu_eq .mov rd 0#32 (shifted t).1 (shifted t).2 st
  have format4 (op : DpOp) := thumbAlu_eq op rd (x rd) (x rs) c st
  have format4Shift (t : ShiftKind) := thumbAlu_eq .mov rd 0#32 (turned t).1 (turned t).2 st1
  exact ⟨format1 .lsl, format1 .lsr, format1 .asr,
    thumbAlu_eq .add rd (x rs) (x rn) c st, thumbAlu_eq .sub rd (x rs) (x rn) c st,
    thumbAlu_immediate .add rd (x rs) c st n3, thumbAlu_immediate .sub rd (x rs) c st n3,
    thumbAlu_immediate .mov rd 0#32 c st v, thumbAlu_immediate .cmp rd (x rd) c st v,
    thumbAlu_immediate .add rd (x rd) c st v, thumbAlu_immediate .sub rd (x rd) c st v,
    format4 .and, format4 .eor, format4Shift .lsl, format4Shift .lsr, format4Shift .asr,
    format4 .adc, format4 .sbc, format4Shift .ror, format4 .tst, thumbAlu_eq .rsb rd (x rs) 0#32 c st,
    format4 .cmp, format4 .cmn, format4 .orr, thumbMultiply_eq rs rd st, format4 .bic,
    thumbAlu_eq .mvn rd 0#32 (x rs) c st⟩

/-! ## Format 5 (R460..R463) -/

theorem State.finish_eq (s : State) (rd : RegNum) (v : Word) :
    s.finish rd v = if rd = 15#4 then s.branch v else { s with cpu := s.cpu.wrote rd v s.cpu.cpsr } := by
  split
  case isTrue h => rw [h, State.finish_pc]
  case isFalse h => exact State.finish_of_ne s rd v h

/-- Settles O36: ADD and MOV end in the shared write of a result, CMP in the write of the flags. -/
theorem thumbHiRegisters : Obligations.ThumbHiRegisters := by
  intro h1 h2 rs rd st h d s goes
  have allowed (k : Result) : format5 h1 h2 st k = k :=
    State.unpredictable_ok fun hs => by rcases h hs with rfl | rfl <;> simp
  have result (v : Word) : st.finish d v = goes v := State.finish_eq st d v
  refine ⟨?add, ?mov, ?cmp⟩
  case add => exact (allowed _).trans (congrArg _ (result _))
  case mov => exact (allowed _).trans (congrArg _ (result _))
  case cmp => exact (allowed _).trans (congrArg _ (State.setCpsr_advance st _ (Psr.setNzcv_t ..)))

end Sys2Proof.Machine
end

section
/-! PROOFS. O37, O38, O39 (spec/46_thumb_mem.md R480..R499): every single transfer of a low register is the shared load
or store at the address of its format, and the address forms of ADD are the shared write of an address. -/

namespace Sys2Proof.Machine

open Sys2Proof

/-! ## Addresses -/

theorem scaled_eq_twoPow_mul {n : Nat} (v : BitVec n) (k : Nat) : scaled v k = BitVec.twoPow 32 k * v.zeroExtend 32 :=
  (BitVec.shiftLeft_eq_mul_twoPow _ _).trans (BitVec.mul_comm _ _)

theorem scaled_one {n : Nat} (v : BitVec n) : scaled v 1 = 2#32 * v.zeroExtend 32 := scaled_eq_twoPow_mul v 1

theorem scaled_two {n : Nat} (v : BitVec n) : scaled v 2 = 4#32 * v.zeroExtend 32 := scaled_eq_twoPow_mul v 2

/-- The PC of formats 6 and 12 (R480, R497). -/
theorem State.pcWord_thumb {s : State} (ht : s.cpu.cpsr.t = true) : s.pcWord = (s.cpu.pc + 4#32) &&& ~~~3#32 := by
  rw [State.pcWord, State.pcRead_eq, if_pos ht]
  rfl

/-! ## Transfers of a low register -/

/-- No base moves, and a low register is never R15, so no load branches. -/
theorem thumbLoad_eq (k : LoadKind) (rd : LowReg) (a : Word) (st : State) :
    thumbLoad k rd a st = .next (st.thumbLoaded k rd a) := by
  rw [thumbLoad, State.loadReg_eq]
  simp only [if_neg (lowReg_ne_pc rd)]
  rfl

theorem thumbStore_ok {w : Width} {rd : LowReg} {a : Word} {st : State} {y : Sys}
    (h : st.sys.store .nonseq w a (st.reg (lowReg rd)) = .ok y) :
    thumbStore w rd a st = .next { cpu := { st.cpu with pc := st.cpu.pc + widthOf st.cpu.cpsr.t }, sys := y } :=
  State.storeReg_ok w a _ false 0#4 0#32 st y h

/-- Settles O37: each row is the load of its kind at the address of its format. -/
theorem thumbLoads : Obligations.ThumbLoads := by
  intro ro rb rd o v st ht x
  rw [← State.pcWord_thumb ht, ← scaled_two, ← scaled_two, ← scaled_one, ← scaled_zero]
  have atSum (k : LoadKind) := thumbLoad_eq k rd (x rb + x ro) st
  have atOffset (k : LoadKind) (n : Nat) := thumbLoad_eq k rd (x rb + scaled o n) st
  exact ⟨thumbLoad_eq .word rd (st.pcWord + scaled v 2) st, atSum .word, atSum .byte, atSum .half, atSum .signedByte,
    atSum .signedHalf, atOffset .word 2, atOffset .byte 0, atOffset .half 1,
    thumbLoad_eq .word rd (st.reg 13#4 + scaled v 2) st⟩

/-- Settles O38: each row is the store of its width at the address of its format. -/
theorem thumbStores : Obligations.ThumbStores := by
  intro ro rb rd o v st i w a hrow hstop
  have store : exec i st = thumbStore w rd a st := by
    rw [← scaled_two, ← scaled_two, ← scaled_one, ← scaled_zero] at hrow
    rcases hrow with ⟨rfl, rfl, rfl⟩ | ⟨rfl, rfl, rfl⟩ | ⟨rfl, rfl, rfl⟩ | ⟨rfl, rfl, rfl⟩ | ⟨rfl, rfl, rfl⟩ |
      ⟨rfl, rfl, rfl⟩ | ⟨rfl, rfl, rfl⟩ <;> rfl
  obtain ⟨y, hy⟩ := Sys.store_of_not_stops _ _ _ _ hstop
  exact ⟨y, hy, store.trans (thumbStore_ok hy)⟩

/-- Settles O39: the destination is a low register or the stack pointer, so the write of the address goes on. -/
theorem thumbAddresses : Obligations.ThumbAddresses := by
  intro rd v s o st ht wrote
  rw [← State.pcWord_thumb ht, ← scaled_two, ← scaled_two]
  have writesLow (a : Word) : st.finish (lowReg rd) a = wrote (lowReg rd) a :=
    State.finish_of_ne st _ a (lowReg_ne_pc rd)
  have writesSp (a : Word) : st.finish 13#4 a = wrote 13#4 a := State.finish_of_ne st _ a (by decide)
  refine ⟨?pcRelative, ?spRelative, ?stackPointer⟩
  case pcRelative => exact congrArg _ (writesLow _)
  case spRelative => exact congrArg _ (writesLow _)
  case stackPointer =>
    refine (congrArg _ (writesSp _)).trans ?_
    cases s <;> rfl

end Sys2Proof.Machine
end

section
/-! PROOFS. O51 and O52 (spec/60_exceptions.md R566, R567, 61_timers_dma.md R600, R603, R650, R660, R661, 20_memory.md R122,
R123): the reserved bits and the FIFO depths are kept by every operation outside the CPU, and the clock by every half of a
step. -/

namespace Sys2Proof.Machine

open Sys2Proof

/-- The reserved bits of the registers and the depth of the FIFOs. -/
theorem reservedClear_sysInvariant : SysInvariant Sys.reservedClear where
  keep h := h.reserved
  clock _ _ _ _ _ h := h

/-- Settles O51: every operation outside the CPU keeps the reserved bits clear, so every step does. -/
theorem stepKeepsReservedClear : Obligations.StepKeepsReservedClear := fun _ _ => reservedClear_sysInvariant.step

/-! ## The clock (61_timers_dma.md R600, R603) -/

/-- A charged access moves the clock on or leaves it, and adds to the cost. -/
theorem SysRun.clock {y z : Sys} : SysRun y z → y.now ≤ z.now ∧ y.cost ≤ z.cost
  | ⟨n, h⟩ => ⟨h.now, h.cost ▸ Nat.le_add_right _ n⟩

/-- The fetch of an instruction costs a cycle, and its execution takes none back (20_memory.md R122). -/
theorem executeOne_clock {s t : State} (h : s.executeOne = .next t) : s.sys.now ≤ t.sys.now ∧ s.sys.cost < t.sys.cost := by
  have fetched : s.sys.now ≤ (s.fetchNext (fetchAccess s.currentInstr s.cpu.cpsr)).sys.now ∧
      s.sys.cost < (s.fetchNext (fetchAccess s.currentInstr s.cpu.cpsr)).sys.cost := by
    have hstep := SysStep.memFetch (s.sys.charge (accessCost s.sys.waitcnt (fetchAccess s.currentInstr s.cpu.cpsr)
      (fetchWidth s.cpu.cpsr.t) s.pcRead)) s.cpu.cpsr.t s.pcRead
    have hcost := accessCost_pos s.sys.waitcnt (fetchAccess s.currentInstr s.cpu.cpsr) (fetchWidth s.cpu.cpsr.t) s.pcRead
    refine ⟨hstep.now, ?_⟩
    change s.sys.cost < (Sys.memFetch _ _ _).2.cost
    rw [hstep.cost, Sys.charge_cost]
    omega
  have executed := (exec_runs _ _ t h).run.clock
  exact ⟨fetched.1.trans executed.1, fetched.2.trans_le executed.2⟩

/-- The first half of a step. -/
theorem runCpu_clock {s t : State} (h : s.runCpu = .next t) :
    s.sys.now ≤ t.sys.now ∧ (s.sys.halted = false → s.sys.midDispatch = false → s.sys.now < t.sys.now) ∧
      (s.sys.cost = 0 → t.sys.cost = 0) := by
  rcases State.runCpu_cases h with ⟨hm, rfl⟩ | ⟨-, hh, rfl⟩ | ⟨-, -, u, hu, rfl⟩
  · exact ⟨Nat.le_refl _, fun _ hm' => absurd (hm.symm.trans hm') (by decide), id⟩
  · exact ⟨Nat.le_max_left _ _, fun hh' => absurd (hh.symm.trans hh') (by decide), id⟩
  · obtain ⟨hnow, hcost⟩ := executeOne_clock hu
    rw [State.commit_sys_now, State.commit_sys_cost]
    exact ⟨by omega, fun _ _ => by omega, fun _ => rfl⟩

theorem checkIrq_clock (s : State) : s.sys.now ≤ s.checkIrq.sys.now ∧ (s.sys.cost = 0 → s.checkIrq.sys.cost = 0) := by
  rcases s.checkIrq_cases with e | e <;> rw [e]
  · exact ⟨Nat.le_refl _, id⟩
  · exact ⟨((Runs.refl s).enterException.run.clock.1).trans (Nat.le_add_right _ _), fun _ => rfl⟩

/-- The second half of a step. -/
theorem runEvents_clock {s t : State} (h : s.runEvents = .next t) :
    s.sys.now ≤ t.sys.now ∧ (s.sys.cost = 0 → t.sys.cost = 0) := by
  obtain ⟨y, hy, ht⟩ := State.runEvents_cases h
  have dispatched := SysKeep.dispatchDue _ _ y hy
  rcases ht with ⟨-, rfl⟩ | ⟨-, rfl⟩
  · exact ⟨dispatched.now, dispatched.cost.trans⟩
  · have checked := checkIrq_clock (s.withSys { y with midDispatch := false }).wakeUp
    rcases (s.withSys { y with midDispatch := false }).wakeUp_cases with e | e <;> rw [e] at checked ⊢ <;>
      exact ⟨dispatched.now.trans checked.1, fun hs => checked.2 (dispatched.cost.trans hs)⟩

/-- Settles O52: the two halves of a step, the first of which takes the cycles of an instruction. -/
theorem stepAdvancesTime : Obligations.StepAdvancesTime := by
  intro s t h
  obtain ⟨u, hu, ht⟩ := step_cases h
  obtain ⟨now, running, cost⟩ := runCpu_clock hu
  obtain ⟨now', cost'⟩ := runEvents_clock ht
  exact ⟨now.trans now', fun hh hm => (running hh hm).trans_le now', fun hc => cost' (cost hc)⟩

end Sys2Proof.Machine
end

section
/-! PROOFS. O50 (spec/61_timers_dma.md R602, 62_ppu.md R671, R673..R675): the PPU has one event in the queue; its handler takes
it out, moves the PPU on and puts in the next one, and no other operation touches a line event. -/

namespace Sys2Proof.Machine

open Sys2Proof

/-! ## The line operations of the PPU, field by field (62_ppu.md R673, R674) -/

theorem Sys.renderVisible_eq (y : Sys) : y.renderVisible = { y with
    fb := if h : y.ppu.vcount.val < 160 then
        y.fb.set y.ppu.vcount.val (Vector.ofFn fun x : Fin 240 => pixelColour y.mem y.ppu y.ppu.vcount.val x.val)
      else y.fb } := by
  unfold Sys.renderVisible
  split <;> rfl

theorem Sys.enterHblank_eq (y : Sys) : y.enterHblank = { y with
    ppu := { y.ppu with phase := .hblank, dispstat := y.ppu.dispstat ||| 2#16 },
    iflag := if y.ppu.dispstat.getLsbD 4 then y.iflag ||| 2#16 else y.iflag } := by
  unfold Sys.enterHblank
  dsimp only
  split <;> rfl

theorem Ppu.startLine_eq (p : Ppu) : p.startLine = { p with
    phase := .hdraw, dispstat := p.dispstat &&& ~~~2#16, vcount := nextLine p.vcount,
    bg2 := if p.vcount.val < 160 then p.bg2.advance else p.bg2,
    bg3 := if p.vcount.val < 160 then p.bg3.advance else p.bg3 } := by
  unfold Ppu.startLine Ppu.setStatus
  dsimp only
  split <;> rfl

theorem Sys.enterVblank_eq (y : Sys) : y.enterVblank = { y with
    ppu := { y.ppu with dispstat := y.ppu.dispstat ||| 1#16 },
    iflag := if y.ppu.dispstat.getLsbD 3 then y.iflag ||| 1#16 else y.iflag } := by
  unfold Sys.enterVblank
  dsimp only
  split <;> rfl

theorem Sys.endVblank_eq (y : Sys) : y.endVblank = { y with ppu := { y.ppu with
    dispstat := if y.ppu.vcount.val = 227 then y.ppu.dispstat &&& ~~~1#16 else y.ppu.dispstat } } := by
  unfold Sys.endVblank
  split <;> rfl

/-- Whether VCOUNT equals LYC (62_ppu.md R674, R677). -/
def Ppu.lineMatches (p : Ppu) : Bool := bitsNat p.dispstat 8 8 == p.vcount.val

theorem Sys.vcountMatch_eq (y : Sys) : y.vcountMatch = { y with
    ppu := { y.ppu with
      dispstat := if y.ppu.lineMatches then y.ppu.dispstat ||| 4#16 else y.ppu.dispstat &&& ~~~4#16 },
    iflag := if y.ppu.lineMatches && y.ppu.dispstat.getLsbD 5 then y.iflag ||| 4#16 else y.iflag } := by
  unfold Sys.vcountMatch
  dsimp only
  split
  next h => rw [if_pos (show (y.ppu.lineMatches && y.ppu.dispstat.getLsbD 5) = true from h)]; rfl
  next h => rw [if_neg (show ¬ (y.ppu.lineMatches && y.ppu.dispstat.getLsbD 5) = true from h)]; rfl

/-! ## The one line event (62_ppu.md R671) -/

/-- The event that ends a phase. -/
def Phase.endEvent : Phase → EventKind
  | .hdraw => .hdrawEnd
  | .hblank => .lineEnd

/-- The cycle of its line at which a phase ends. -/
def Phase.endCycle : Phase → Nat
  | .hdraw => 1006
  | .hblank => 1232

/-- The V-Blank flag's lines (62_ppu.md R674). -/
def inVblank (v : Fin 228) : Bool := decide (160 ≤ v.val ∧ v.val < 227)

/-- `ppuCoherent` with its two kinds of event as one: the only line event is the end of the current phase, at its cycle. -/
structure Sys.OnLine (y : Sys) (e : Event) (n : Nat) : Prop where
  only   : y.events.filter Event.isLine = [e]
  kind   : e.kind = y.ppu.phase.endEvent
  cycle  : e.cycle = 1232 * n + y.ppu.phase.endCycle
  line   : n % 228 = y.ppu.vcount.val
  hblank : y.ppu.dispstat.getLsbD 1 = decide (y.ppu.phase = .hblank)
  vblank : y.ppu.dispstat.getLsbD 0 = inVblank y.ppu.vcount

theorem Event.isLine_iff {e : Event} : e.isLine = true ↔ e.kind = .hdrawEnd ∨ e.kind = .lineEnd := by
  simp [Event.isLine]

/-- With one event of one of the two kinds and none of the other, that event is the only line event. -/
theorem Sys.only_of_queued {y : Sys} {k k' : EventKind} (hk : ∀ e : Event, e.isLine = true ↔ e.kind = k ∨ e.kind = k')
    (h : y.queued k = 1) (h' : y.queued k' = 0) : ∃ e ∈ y.events, e.kind = k ∧ y.events.filter Event.isLine = [e] := by
  have noOther : ∀ e ∈ y.events, e.kind ≠ k' := by simpa [Sys.queued, List.countP_eq_zero] using h'
  have lines : y.events.filter Event.isLine = y.events.filter fun e => e.kind = k :=
    List.filter_congr fun e he => by
      rw [Bool.eq_iff_iff, hk, decide_eq_true_iff]
      exact or_iff_left (noOther e he)
  rw [Sys.queued, List.countP_eq_length_filter] at h
  obtain ⟨e, he⟩ := List.length_eq_one_iff.1 h
  have hmem : e ∈ y.events.filter fun e => e.kind = k := he ▸ List.mem_singleton_self e
  exact ⟨e, (List.mem_filter.1 hmem).1, by simpa using (List.mem_filter.1 hmem).2, lines.trans he⟩

/-- The events of a line kind are among the line events. -/
theorem Sys.OnLine.queued {y : Sys} {e : Event} {n : Nat} (h : y.OnLine e n) {k : EventKind}
    (hk : k = .hdrawEnd ∨ k = .lineEnd) : y.queued k = if e.kind = k then 1 else 0 := by
  have inLines : y.queued k = (y.events.filter Event.isLine).countP fun e => e.kind = k := by
    rw [List.countP_filter]
    refine List.countP_congr fun x _ => ?_
    rcases hk with rfl | rfl <;> simp +contextual [Event.isLine]
  rw [inLines, h.only, List.countP_singleton]
  simp

theorem Sys.OnLine.eq_of_mem {y : Sys} {e x : Event} {n : Nat} (h : y.OnLine e n) (hx : x ∈ y.events)
    (hk : x.isLine = true) : x = e :=
  List.mem_singleton.1 (h.only ▸ List.mem_filter.2 ⟨hx, hk⟩)

/-- The two descriptions of the schedule agree. -/
theorem Sys.ppuCoherent_iff (y : Sys) : y.ppuCoherent ↔ ∃ e n, y.OnLine e n := by
  constructor
  · rintro ⟨hdraws, ends, hblank, vblank, hdrawAt, endAt⟩
    cases hp : y.ppu.phase <;> simp only [hp, reduceCtorEq, if_true, if_false] at hdraws ends
    case hdraw =>
      obtain ⟨e, he, hk, only⟩ := Sys.only_of_queued (fun _ => Event.isLine_iff) hdraws ends
      obtain ⟨n, hc, hn⟩ := hdrawAt e he hk
      exact ⟨e, n, only, hp ▸ hk, hp ▸ hc, hn, hblank, vblank⟩
    case hblank =>
      obtain ⟨e, he, hk, only⟩ := Sys.only_of_queued (fun _ => Event.isLine_iff.trans or_comm) ends hdraws
      obtain ⟨n, hc, hn⟩ := endAt e he hk
      exact ⟨e, n, only, hp ▸ hk, hp ▸ hc, hn, hblank, vblank⟩
  · rintro ⟨e, n, h⟩
    refine ⟨(h.queued (.inl rfl)).trans ?_, (h.queued (.inr rfl)).trans ?_, h.hblank, h.vblank, fun x hx hk => ?_,
      fun x hx hk => ?_⟩
    · rw [h.kind]; cases y.ppu.phase <;> rfl
    · rw [h.kind]; cases y.ppu.phase <;> rfl
    all_goals
      obtain rfl := h.eq_of_mem hx (by simp [Event.isLine, hk])
      have kind := h.kind
      have cycle := h.cycle
      cases hp : y.ppu.phase <;> rw [hp] at kind cycle <;> rw [hk] at kind <;> cases kind
      exact ⟨n, cycle, h.line⟩

/-! ## Between two line events -/

/-- The PPU while the handler of a line event runs: its event is taken out, and the V-Blank flag is `vb`. -/
structure Sys.Between (y : Sys) (p : Phase) (v : Fin 228) (vb : Bool) : Prop where
  phase  : y.ppu.phase = p
  vcount : y.ppu.vcount = v
  hblank : y.ppu.dispstat.getLsbD 1 = decide (p = .hblank)
  vblank : y.ppu.dispstat.getLsbD 0 = vb
  none   : y.events.filter Event.isLine = []

/-- The bits of a mask agree where the masked values do. -/
theorem getLsbD_of_masked {a b m : Half} (h : a &&& m = b &&& m) {i : Nat} (hi : m.getLsbD i = true) :
    a.getLsbD i = b.getLsbD i := by
  simpa [BitVec.getLsbD_and, hi] using congrArg (BitVec.getLsbD · i) h

section
variable {y z : Sys} {p : Phase} {v : Fin 228} {vb : Bool} {e : Event} {n : Nat}

theorem SysStep.between (s : SysStep y z) (h : y.Between p v vb) : z.Between p v vb :=
  ⟨s.phase.trans h.phase, s.vcount.trans h.vcount, (getLsbD_of_masked s.status (by decide)).trans h.hblank,
    (getLsbD_of_masked s.status (by decide)).trans h.vblank, s.lines.trans h.none⟩

theorem SysStep.onLine (s : SysStep y z) (h : y.OnLine e n) : z.OnLine e n where
  only := s.lines.trans h.only
  kind := s.phase ▸ h.kind
  cycle := s.phase ▸ h.cycle
  line := s.vcount ▸ h.line
  hblank := by rw [getLsbD_of_masked s.status (by decide), s.phase, h.hblank]
  vblank := by rw [getLsbD_of_masked s.status (by decide), s.vcount, h.vblank]

/-- An insertion into a queue without line events. -/
theorem Events.filter_insert_alone {x : Event} {l : List Event} (hl : l.filter Event.isLine = [])
    (hx : x.isLine = true) : (Events.insert x l).filter Event.isLine = [x] := by
  induction l with
  | nil => simp [Events.insert, hx]
  | cons a l ih =>
    have ha : a.isLine = false := by
      cases ha : a.isLine <;> simp [ha] at hl ⊢
    rw [List.filter_cons_of_neg (by simp [ha])] at hl
    simp only [Events.insert]
    split
    · rw [List.filter_cons_of_neg (by simp [ha]), ih hl]
    · rw [List.filter_cons_of_pos hx, List.filter_cons_of_neg (by simp [ha]), hl]

/-- The least entry taken out is the line event, or no line event is lost. -/
theorem Sys.OnLine.pop {x : Event} {rest : List Event} (h : y.OnLine e n) (he : y.events = x :: rest) :
    (x = e ∧ Sys.Between { y with events := rest } y.ppu.phase y.ppu.vcount (inVblank y.ppu.vcount)) ∨
      (x.isLine = false ∧ Sys.OnLine { y with events := rest } e n) := by
  have only := h.only
  rw [he, List.filter_cons] at only
  split at only
  next hx =>
    obtain ⟨rfl, none⟩ := List.cons.inj only
    exact .inl ⟨rfl, rfl, rfl, h.hblank, h.vblank, none⟩
  next hx => exact .inr ⟨Bool.eq_false_iff.2 hx, only, h.kind, h.cycle, h.line, h.hblank, h.vblank⟩

/-- Scheduling the end of the phase closes the gap. -/
theorem Sys.Between.schedule (h : y.Between p v (inVblank v)) (hn : n % 228 = v.val) :
    (y.schedule (1232 * n + p.endCycle) p.endEvent).OnLine
      { cycle := 1232 * n + p.endCycle, kind := p.endEvent, seq := y.nextSeq } n := by
  have hline : Event.isLine { cycle := 1232 * n + p.endCycle, kind := p.endEvent, seq := y.nextSeq } = true := by
    cases p <;> rfl
  have removed : (Events.remove p.endEvent y.events).filter Event.isLine = [] :=
    List.sublist_nil.1 (h.none ▸ (Events.remove_sublist _ _).filter _)
  obtain ⟨rfl, rfl, hblank, vblank, -⟩ := h
  exact ⟨Events.filter_insert_alone removed hline, rfl, rfl, hn, hblank, vblank⟩

/-! ### The end of HDraw (62_ppu.md R673) -/

theorem Sys.Between.enterHblank (h : y.Between .hdraw v vb) : y.renderVisible.enterHblank.Between .hblank v vb := by
  rw [Sys.enterHblank_eq, Sys.renderVisible_eq]
  exact ⟨rfl, h.vcount, by simp, by simpa using h.vblank, h.none⟩

/-- `HDrawEnd` queues the end of the line. -/
theorem Sys.Between.hdrawEnd (h : y.Between .hdraw v (inVblank v)) (hn : n % 228 = v.val)
    (hz : y.hdrawEnd (1232 * n + 1006) = .ok z) : ∃ e, z.OnLine e n := by
  unfold Sys.hdrawEnd at hz
  split at hz
  next w hw =>
    cases hz
    exact ⟨_, ((SysStep.hblankDma _ w hw).between h.enterHblank).schedule hn⟩
  next => cases hz

/-! ### The end of a line (62_ppu.md R674) -/

theorem Sys.Between.startLine (h : y.Between .hblank v vb) : y.startLine.Between .hdraw (nextLine v) vb := by
  rw [Sys.startLine, Ppu.startLine_eq]
  exact ⟨rfl, congrArg nextLine h.vcount, by simp, by simpa using h.vblank,
    h.none⟩

/-- V-Blank starts at line 160. -/
theorem Sys.Between.beginLine (h : y.Between .hdraw v vb) (hz : y.beginLine = .ok z) :
    z.Between .hdraw v (vb || decide (v.val = 160)) := by
  unfold Sys.beginLine at hz
  rw [h.vcount] at hz
  split at hz
  next hv =>
    have entered : y.enterVblank.Between .hdraw v true := by
      rw [Sys.enterVblank_eq]
      exact ⟨h.phase, h.vcount, by simpa using h.hblank, by simp, h.none⟩
    unfold Sys.vblankStart at hz
    split at hz
    next w hw =>
      cases hz
      obtain ⟨phase, vcount, hblank, vblank, none⟩ := (SysStep.dmaTrigger _ _ w hw).between entered
      simp only [hv, decide_true, Bool.or_true]
      exact ⟨phase, vcount, hblank, vblank, none⟩
    next => cases hz
  next hv =>
    cases hz
    simpa [hv] using h

/-- V-Blank ends at line 227. -/
theorem Sys.Between.endVblank (h : y.Between .hdraw v vb) : y.endVblank.Between .hdraw v (vb && decide (v.val ≠ 227)) := by
  rw [Sys.endVblank_eq, h.vcount]
  by_cases hv : v.val = 227
  · exact ⟨h.phase, h.vcount, by simpa [hv] using h.hblank, by simp [hv], h.none⟩
  · exact ⟨h.phase, h.vcount, by simpa [hv] using h.hblank, by simpa [hv] using h.vblank, h.none⟩

/-- The match flag is neither of the two. -/
theorem Sys.Between.vcountMatch (h : y.Between p v vb) : y.vcountMatch.Between p v vb := by
  rw [Sys.vcountMatch_eq]
  refine ⟨h.phase, h.vcount, ?_, ?_, h.none⟩
  · rw [← h.hblank]; dsimp only; split <;> simp
  · rw [← h.vblank]; dsimp only; split <;> simp

/-- The V-Blank flag of a line from that of the line before. -/
theorem inVblank_nextLine (v : Fin 228) :
    ((inVblank v || decide ((nextLine v).val = 160)) && decide ((nextLine v).val ≠ 227)) = inVblank (nextLine v) := by
  have hv : (nextLine v).val = (v.val + 1) % 228 := rfl
  rw [Bool.eq_iff_iff]
  simp only [inVblank, hv, Bool.and_eq_true, Bool.or_eq_true, decide_eq_true_iff]
  omega

/-- `LineEnd` queues the end of the next line's HDraw. -/
theorem Sys.Between.lineEnd (h : y.Between .hblank v (inVblank v)) (hn : n % 228 = v.val)
    (hz : y.lineEnd (1232 * n + 1232) = .ok z) : ∃ e, z.OnLine e (n + 1) := by
  unfold Sys.lineEnd at hz
  split at hz
  next => cases hz
  next w hw =>
    cases hz
    have ready := (h.startLine.beginLine hw).endVblank.vcountMatch
    rw [inVblank_nextLine] at ready
    have hn' : (n + 1) % 228 = (nextLine v).val := by
      change _ = (v.val + 1) % 228
      omega
    have cycle : 1232 * n + 1232 + Config.hdrawCycles = 1232 * (n + 1) + Phase.hdraw.endCycle := by
      simp [Config.hdrawCycles, Phase.endCycle]; omega
    rw [cycle]
    exact ⟨_, ready.schedule hn'⟩

/-! ## The dispatch and the step -/

/-- A handler other than the two line handlers touches no line event. -/
theorem SysStep.handleEvent (x : Event) (hx : x.isLine = false) : StepOk y (y.handleEvent x) := by
  unfold Sys.handleEvent
  cases hk : x.kind
  case hdrawEnd | lineEnd => simp [Event.isLine, hk] at hx
  case timer => exact SysStep.timerOverflow _ _ _ y
  case dma => exact SysStep.dmaEvent _ _ y
  case audioFifo => exact SysStep.fifoRequest y _
  case apuSample | romPrefetch => exact .ok (SysStep.refl y)

/-- The handler of the line event. -/
theorem Sys.Between.handleEvent {x : Event} (h : y.Between p v (inVblank v)) (hk : x.kind = p.endEvent)
    (hc : x.cycle = 1232 * n + p.endCycle) (hn : n % 228 = v.val) (hz : y.handleEvent x = .ok z) :
    ∃ e n, z.OnLine e n := by
  unfold Sys.handleEvent at hz
  cases p <;> simp only [hk, hc, Phase.endEvent, Phase.endCycle] at hz
  case hdraw =>
    obtain ⟨e, he⟩ := h.hdrawEnd hn hz
    exact ⟨e, n, he⟩
  case hblank =>
    obtain ⟨e, he⟩ := h.lineEnd hn hz
    exact ⟨e, n + 1, he⟩

theorem Sys.OnLine.dispatchOne (h : y.OnLine e n) (hz : y.dispatchOne = some (.ok z)) : ∃ e n, z.OnLine e n := by
  rcases Sys.dispatchOne_cases hz with ⟨c, -, hr⟩ | ⟨x, rest, he, -, hr⟩
  · have resumed : SysStep y { y with dmaPending := none } := SysStep.quiet id
    exact ⟨e, n, (SysStep.dmaEvent _ _ _ z hr.symm).onLine (resumed.onLine h)⟩
  · rcases h.pop he with ⟨rfl, popped⟩ | ⟨hx, popped⟩
    · exact popped.handleEvent h.kind h.cycle h.line hr.symm
    · exact ⟨e, n, (SysStep.handleEvent x hx z hr.symm).onLine popped⟩

theorem Sys.OnLine.dispatchDue {fuel : Nat} (h : y.OnLine e n) (hz : y.dispatchDue fuel = .ok z) :
    ∃ e n, z.OnLine e n := by
  induction fuel generalizing y e n with
  | zero => cases hz; exact ⟨e, n, h⟩
  | succ fuel ih =>
    simp only [Sys.dispatchDue] at hz
    split at hz
    next => cases hz; exact ⟨e, n, h⟩
    next w hw =>
      obtain ⟨e', n', h'⟩ := h.dispatchOne hw
      exact ih h' hz
    next => cases hz

/-- The schedule depends on the PPU and the queue only. -/
theorem Sys.OnLine.congr (h : y.OnLine e n) (hp : z.ppu = y.ppu := by rfl) (he : z.events = y.events := by rfl) :
    z.OnLine e n := by
  obtain ⟨only, kind, cycle, line, hblank, vblank⟩ := h
  rw [← hp] at kind cycle line hblank vblank
  exact ⟨he ▸ only, kind, cycle, line, hblank, vblank⟩

theorem SysRun.onLine (r : SysRun y z) (h : y.OnLine e n) : z.OnLine e n := by
  obtain ⟨m, r⟩ := r
  have charged : (y.charge m).OnLine e n := h.congr
  exact r.onLine charged

end

section
variable {s t : State} {e : Event} {n : Nat}

/-- The CPU's half of a step touches no line event. -/
theorem runCpu_onLine (h : s.sys.OnLine e n) (ht : s.runCpu = .next t) : t.sys.OnLine e n := by
  rcases State.runCpu_cases ht with ⟨-, rfl⟩ | ⟨-, -, rfl⟩ | ⟨-, -, u, hu, rfl⟩
  · exact h
  · exact h.congr
  · have executed : u.sys.OnLine e n := (exec_runs _ _ u hu).run.onLine ((SysRun.fetch s.sys _ _ _).onLine h)
    exact executed.congr

theorem wakeUp_onLine (h : s.sys.OnLine e n) : s.wakeUp.sys.OnLine e n := by
  rcases s.wakeUp_cases with w | w <;> rw [w]
  · exact h
  · exact h.congr

theorem checkIrq_onLine (h : s.sys.OnLine e n) : s.checkIrq.sys.OnLine e n := by
  rcases s.checkIrq_cases with c | c <;> rw [c]
  · exact h
  · have entered : s.takeIrq.sys.OnLine e n := (Runs.refl s).enterException.run.onLine h
    exact entered.congr

/-- The events' half of a step moves the schedule on. -/
theorem runEvents_onLine (h : s.sys.OnLine e n) (ht : s.runEvents = .next t) : ∃ e n, t.sys.OnLine e n := by
  obtain ⟨y, hy, ht⟩ := State.runEvents_cases ht
  obtain ⟨e', n', dispatched⟩ := h.dispatchDue hy
  have flagged (mid : Bool) : Sys.OnLine { y with midDispatch := mid } e' n' := dispatched.congr
  rcases ht with ⟨-, rfl⟩ | ⟨-, rfl⟩
  · exact ⟨e', n', flagged true⟩
  · exact ⟨e', n', checkIrq_onLine (wakeUp_onLine (flagged false))⟩

end

/-- The dispatch order of the queue. -/
theorem queueOrdered_sysInvariant : SysInvariant Sys.queueOrdered where
  keep h := h.ordered
  clock _ _ _ _ _ h := h

/-- Settles O50: every operation outside the CPU keeps the queue in order, and the one line event is replaced by the next
when its handler runs. -/
theorem stepKeepsSchedule : Obligations.StepKeepsSchedule := by
  intro s t ordered coherent h
  refine ⟨queueOrdered_sysInvariant.step ordered h, ?_⟩
  rw [Sys.ppuCoherent_iff] at coherent ⊢
  obtain ⟨e, n, onLine⟩ := coherent
  obtain ⟨u, hu, ht⟩ := step_cases h
  have rolled : s.rollFrame.sys.OnLine e n := onLine.congr
  exact runEvents_onLine (runCpu_onLine rolled hu) ht

end Sys2Proof.Machine
end

section
/-! PROOFS. O59 (spec/62_ppu.md R670, R673, R674, R677): with no channel armed the two line handlers are plain updates of the
PPU, the interrupt requests and the queue. -/

namespace Sys2Proof.Machine

open Sys2Proof

/-! ## Handlers without DMA (61_timers_dma.md R623) -/

/-- No DMA channel is armed. -/
def Sys.noneArmed (y : Sys) : Prop := ∀ c : Fin 4, (y.dmaChannel c).armed = false

/-- A trigger finds nothing to run. -/
theorem Sys.noneArmed.dmaTrigger {y z : Sys} (h : y.noneArmed) (timing : DmaTiming) (hz : z.dma = y.dma := by rfl) :
    z.dmaTrigger timing = .ok z :=
  Sys.dmaTrigger_idle fun c => by
    rw [DmaChannel.awaits, Sys.dmaChannel, hz]
    exact Bool.and_eq_false_iff.2 (.inl (h c))

theorem Sys.noneArmed.hdrawEnd {y : Sys} (h : y.noneArmed) (t : Nat) :
    y.hdrawEnd t = .ok (y.renderVisible.enterHblank.schedule (t + 226) .lineEnd) := by
  have idle : y.renderVisible.enterHblank.hblankDma = .ok y.renderVisible.enterHblank := by
    rw [Sys.enterHblank_eq, Sys.renderVisible_eq, Sys.hblankDma]
    split
    · exact h.dmaTrigger .hblank
    · rfl
  rw [Sys.hdrawEnd, idle]
  rfl

/-! ## The start of a line (62_ppu.md R674) -/

/-- DISPSTAT at the start of line `v`, before the match flag. -/
def lineStatus (d : Half) (v : Nat) : Half :=
  let d := d &&& ~~~2#16
  let d := if v = 160 then d ||| 1#16 else d
  if v = 227 then d &&& ~~~1#16 else d

/-- The internal reference points after line `v`: reloaded for line 160, moved on after a visible line. -/
def AffineBg.afterLine (v : Fin 228) (g : AffineBg) : AffineBg :=
  if (nextLine v).val = 160 then g.latch else if v.val < 160 then g.advance else g

/-- The system at the start of the next line, V-Blank begun or ended, before the match flag. -/
def Sys.lineStarted (y : Sys) : Sys := { y with
  ppu := { y.ppu with
    phase := .hdraw, vcount := nextLine y.ppu.vcount, dispstat := lineStatus y.ppu.dispstat (nextLine y.ppu.vcount).val,
    bg2 := y.ppu.bg2.afterLine y.ppu.vcount, bg3 := y.ppu.bg3.afterLine y.ppu.vcount },
  iflag := y.iflag ||| (if (nextLine y.ppu.vcount).val = 160 ∧ y.ppu.dispstat.getLsbD 3 = true then 1#16 else 0#16) }

/-- The start of a line ends in the system at its start. -/
theorem Sys.noneArmed.beginLine {y : Sys} (h : y.noneArmed) :
    ∃ w, y.startLine.beginLine = .ok w ∧ w.endVblank = y.lineStarted := by
  rw [Sys.startLine, Ppu.startLine_eq, Sys.beginLine]
  by_cases hv : (nextLine y.ppu.vcount).val = 160
  · rw [if_pos hv, Sys.vblankStart, Sys.enterVblank_eq, h.dmaTrigger .vblank]
    refine ⟨_, rfl, ?_⟩
    rw [Sys.latchAffine, Sys.endVblank_eq, Sys.lineStarted]
    have status3 : (y.ppu.dispstat &&& ~~~2#16).getLsbD 3 = y.ppu.dispstat.getLsbD 3 := by simp
    have latched (g : AffineBg) : (if y.ppu.vcount.val < 160 then g.advance else g).latch = g.latch := by split <;> rfl
    simp only [lineStatus, AffineBg.afterLine, hv, if_true, status3, latched, true_and]
    split <;> simp
  · rw [if_neg hv]
    refine ⟨_, rfl, ?_⟩
    rw [Sys.endVblank_eq, Sys.lineStarted]
    simp [lineStatus, AffineBg.afterLine, hv]

theorem Sys.noneArmed.lineEnd {y : Sys} (h : y.noneArmed) (t : Nat) :
    y.lineEnd t = .ok (y.lineStarted.vcountMatch.schedule (t + 1006) .hdrawEnd) := by
  obtain ⟨w, hw, hv⟩ := h.beginLine
  rw [Sys.lineEnd, hw]
  exact congrArg (fun x : Sys => Except.ok (x.vcountMatch.schedule (t + 1006) .hdrawEnd)) hv

/-! ## The status bits (62_ppu.md R677) -/

/-- Clearing bits outside a mask leaves the mask's bits. -/
theorem andNot_outside {a b m : Half} (h : ~~~b &&& m = m) : (a &&& ~~~b) &&& m = a &&& m := by
  rw [BitVec.and_assoc, h]

/-- A field keeps its value where its bits are in a mask whose bits are kept. -/
theorem extract_of_masked {a b m : Half} {lo len : Nat} (h : a &&& m = b &&& m)
    (hm : ∀ i < len, m.getLsbD (lo + i) = true) : a.extractLsb' lo len = b.extractLsb' lo len := by
  refine BitVec.eq_of_getLsbD_eq fun i hi => ?_
  rw [BitVec.getLsbD_extractLsb', BitVec.getLsbD_extractLsb', getLsbD_of_masked h (hm i hi)]

/-- The start of a line leaves every bit but the three status flags. -/
theorem lineStatus_upper (d : Half) (v : Nat) : lineStatus d v &&& 0xFFF8#16 = d &&& 0xFFF8#16 := by
  unfold lineStatus
  dsimp only
  split <;> split <;> simp only [or_outside, andNot_outside, show (1#16 : Half) &&& 0xFFF8#16 = 0#16 from rfl,
    show ~~~(1#16 : Half) &&& 0xFFF8#16 = 0xFFF8#16 from rfl, show ~~~(2#16 : Half) &&& 0xFFF8#16 = 0xFFF8#16 from rfl]

theorem lineStatus_hblank (d : Half) (v : Nat) : (lineStatus d v).getLsbD 1 = false := by
  unfold lineStatus
  dsimp only
  split <;> split <;> simp

theorem lineStatus_vblank (d : Half) (v : Nat) :
    (lineStatus d v).getLsbD 0 = if v = 160 then true else if v = 227 then false else d.getLsbD 0 := by
  unfold lineStatus
  dsimp only
  split <;> split <;> simp_all

/-- DISPSTAT with the match flag. -/
def matchStatus (d : Half) (hit : Bool) : Half := if hit then d ||| 4#16 else d &&& ~~~4#16

theorem matchStatus_others (d : Half) (hit : Bool) : matchStatus d hit &&& 0xFFFB#16 = d &&& 0xFFFB#16 := by
  cases hit
  · exact andNot_outside (by decide)
  · exact or_outside (by decide)

theorem matchStatus_match (d : Half) (hit : Bool) : (matchStatus d hit).getLsbD 2 = hit := by
  cases hit <;> simp [matchStatus]

theorem nextLine_val (v : Fin 228) : (nextLine v).val = if v.val = 227 then 0 else v.val + 1 := by
  change (v.val + 1) % 228 = _
  split <;> omega

/-- VCOUNT is compared with the LYC that DISPSTAT held before. -/
theorem Sys.lineStarted_lineMatches (y : Sys) : y.lineStarted.ppu.lineMatches =
    decide ((y.ppu.dispstat.extractLsb' 8 8).toNat = (nextLine y.ppu.vcount).val) := by
  rw [Ppu.lineMatches, bitsNat, Sys.lineStarted, extract_of_masked (lineStatus_upper _ _) (by decide)]
  exact Bool.beq_eq_decide_eq _ _

/-- The system at the end of the handler, before the next event is queued. -/
theorem Sys.lineStarted_vcountMatch {y : Sys} {hit : Bool} (h : y.lineStarted.ppu.lineMatches = hit) :
    y.lineStarted.vcountMatch = { y.lineStarted with
      ppu := { y.lineStarted.ppu with dispstat := matchStatus y.lineStarted.ppu.dispstat hit },
      iflag := y.lineStarted.iflag ||| (if hit = true ∧ y.ppu.dispstat.getLsbD 5 = true then 4#16 else 0#16) } := by
  have bit5 : y.lineStarted.ppu.dispstat.getLsbD 5 = y.ppu.dispstat.getLsbD 5 :=
    getLsbD_of_masked (lineStatus_upper _ _) (by decide)
  rw [Sys.vcountMatch_eq, h, bit5]
  cases hit <;> cases y.ppu.dispstat.getLsbD 5 <;> simp [matchStatus]

/-- Settles O59: without DMA both handlers are updates whose fields are read off. -/
theorem lineEvents : Obligations.LineEvents := by
  refine fun y t h => ⟨⟨_, Sys.noneArmed.hdrawEnd h t, ?hdraw⟩, ⟨_, Sys.noneArmed.lineEnd h t, ?line⟩⟩
  case hdraw =>
    rw [Sys.enterHblank_eq, Sys.renderVisible_eq]
    exact ⟨rfl, rfl, rfl, (Sys.mem_schedule ..).2 (.inl rfl), rfl⟩
  case line =>
    rw [← nextLine_val, Sys.lineStarted_vcountMatch y.lineStarted_lineMatches]
    have low {i : Nat} (hi : (0xFFFB#16).getLsbD i = true) (hit : Bool) :
        (matchStatus y.lineStarted.ppu.dispstat hit).getLsbD i = y.lineStarted.ppu.dispstat.getLsbD i :=
      getLsbD_of_masked (matchStatus_others _ _) hi
    refine ⟨rfl, rfl, (low (by decide) _).trans (lineStatus_hblank _ _),
      (low (by decide) _).trans (lineStatus_vblank _ _), matchStatus_match _ _, ⟨rfl, rfl⟩, ?upper, rfl,
      (Sys.mem_schedule ..).2 (.inl rfl), rfl, rfl⟩
    case upper =>
      exact (extract_of_masked (matchStatus_others _ _) (by decide)).trans
        (extract_of_masked (lineStatus_upper _ _) (by decide))

end Sys2Proof.Machine
end

section
/-! PROOFS. O60 (spec/62_ppu.md R711, R713, R720, R736..R738, R740, R741): the pixels of a rendered line, and the single
opaque layer of mode 3 above the backdrop. -/

namespace Sys2Proof.Machine

open Sys2Proof

/-- Each pixel of a rendered line is its colour (R740). -/
theorem Sys.renderLine_pixel (y : Sys) {line x : Nat} (h : line < 160) (hx : x < 240) :
    ((y.renderLine line h).fb[line])[x] = pixelColour y.mem y.ppu line x := by
  simp [Sys.renderLine]

/-! ## The bitmap of mode 3 (R711, R713) -/

/-- Under the identity transform the texture column is the screen column. -/
theorem textureCoord_identity (sx : Nat) : textureCoord 0#28 0x0100#16 sx = sx := by
  have step : (0x0100#16 : Half).toInt = 256 := by decide
  simp only [textureCoord, step, BitVec.toInt_zero]
  omega

/-- With the internal reference point at line `n` and no vertical step the texture row is `n`. -/
theorem textureCoord_line {n : Nat} (hn : n < 160) (sx : Nat) : textureCoord (BitVec.ofNat 28 (256 * n)) 0#16 sx = n := by
  have point : (BitVec.ofNat 28 (256 * n)).toInt = 256 * n := by
    rw [BitVec.toInt_eq_toNat_of_lt (by simp; omega), BitVec.toNat_ofNat, Nat.mod_eq_of_lt (by omega)]
    rfl
  simp only [textureCoord, point, BitVec.toInt_zero]
  omega

section
variable {m : List Host.Cell} {p : Ppu} {line x : Nat}

theorem bitmapPixel_mode3 (hl : line < 160) (hx : x < 240) (pa : p.bg2.pa = 0x0100#16) (pc : p.bg2.pc = 0#16)
    (rx : p.bg2.rx = 0#28) (ry : p.bg2.ry = BitVec.ofNat 28 (256 * line)) :
    bitmapPixel m 3 p x =
      some { colour := vramHalf m (2 * (240 * line + x)) &&& 0x7FFF#16, priority := bitsNat p.bgcnt[2] 0 2 } := by
  have inside : (decide ((0 : Int) ≤ x) && decide ((x : Int) < (240 : Nat)) && decide ((0 : Int) ≤ line) &&
      decide ((line : Int) < (160 : Nat))) = true := by
    simp only [Bool.and_eq_true, decide_eq_true_iff]
    omega
  simp only [bitmapPixel, pa, pc, rx, ry, textureCoord_identity, textureCoord_line hl]
  simp only [Nat.reduceEqDiff, if_false, inside, Bool.not_true, Bool.false_eq_true, Int.toNat_natCast]

/-! ## One opaque layer (R736..R738) -/

theorem bitsNat_lt {n : Nat} (v : BitVec n) (lo len : Nat) : bitsNat v lo len < 2 ^ len := BitVec.isLt _

/-- With one opaque background the candidates are it and the backdrop. -/
theorem candidates_single {s : Sample} (hs : s.priority < 4) (backdrop : Half) :
    candidates none [(0, none), (1, none), (2, some s), (3, none)] backdrop =
      [{ number := 2, colour := s.colour, semi := false }, { number := 5, colour := backdrop, semi := false }] := by
  obtain ⟨colour, priority⟩ := s
  dsimp only at hs
  interval_cases priority <;> rfl

/-- Without a colour effect an opaque layer shows its own colour. -/
theorem colourEffect_off (h : p.bldcnt.extractLsb' 6 2 = 0#2) {top below : Layer} (ht : top.semi = false) :
    colourEffect p top below = top.colour := by
  simp [colourEffect, bitsNat, h, ht]

/-- No window is enabled, so every layer is in the set (R736). -/
theorem layerSet_all (h13 : p.dispcnt.getLsbD 13 = false) (h14 : p.dispcnt.getLsbD 14 = false)
    (h15 : p.dispcnt.getLsbD 15 = false) (objWin : Bool) : layerSet p objWin x line = 0x3F#6 := by
  simp only [layerSet, h13, h14, h15]
  rfl

/-- A background disabled in DISPCNT has no pixel (R720). -/
theorem bgPixel_disabled {b : Fin 4} (h : p.dispcnt.getLsbD (8 + b.val) = false) : bgPixel m p b x line = none := by
  simp [bgPixel, h]

/-- In mode 3 BG2 is the bitmap (R720). -/
theorem bgPixel_mode3 (hm : p.mode = 3) (h : p.dispcnt.getLsbD 10 = true) : bgPixel m p 2 x line = bitmapPixel m 3 p x := by
  simp [bgPixel, h, hm, bgKind]

end

/-- Settles O60: forced blank is the first case of a pixel, and in mode 3 BG2 alone stands above the backdrop. -/
theorem renderedLine : Obligations.RenderedLine := by
  intro y line x hl hx p colour
  have pixel : colour = pixelColour y.mem p line x := y.renderLine_pixel hl hx
  rw [pixel]
  refine ⟨fun hblank => if_pos hblank, fun hmode hbits hbld hpa hpc hrx hry => ?_⟩
  have bit (i : Nat) (hi : i < 9) : p.dispcnt.getLsbD (7 + i) = (0b000001000#9).getLsbD i := by
    rw [← hbits, BitVec.getLsbD_extractLsb', decide_eq_true hi, Bool.true_and]
  have mode : p.mode = 3 := congrArg BitVec.toNat hmode
  have off (b : Fin 4) (hb : p.dispcnt.getLsbD (8 + b.val) = false) : bgPixel y.mem p b x line = none := bgPixel_disabled hb
  have samples : bgSamples y.mem p 0x3F#6 x line = [(0, none), (1, none), (2, bitmapPixel y.mem 3 p x), (3, none)] := by
    change [(0, bgPixel y.mem p 0 x line), (1, bgPixel y.mem p 1 x line), (2, bgPixel y.mem p 2 x line),
      (3, bgPixel y.mem p 3 x line)] = _
    rw [off 0 (bit 1 (by decide)), off 1 (bit 2 (by decide)), off 3 (bit 4 (by decide)),
      bgPixel_mode3 mode (bit 3 (by decide))]
  have noBlank : p.dispcnt.getLsbD 7 = false := bit 0 (by decide)
  have noObjects : p.dispcnt.getLsbD 12 = false := bit 5 (by decide)
  have layers := layerSet_all (x := x) (line := line) (bit 6 (by decide)) (bit 7 (by decide)) (bit 8 (by decide))
  simp only [pixelColour, noBlank, noObjects, layers, samples, bitmapPixel_mode3 hl hx hpa hpc hrx hry,
    Bool.false_and, Bool.false_eq_true, if_false]
  rw [candidates_single (bitsNat_lt _ 0 2)]
  exact (if_pos rfl).trans (colourEffect_off hbld rfl)

end Sys2Proof.Machine
end

section
/-! PROOFS. O55, O56 (spec/61_timers_dma.md R611..R615): the counter of a timer by whole prescaler periods, and the overflow of
timer 2 with the cascade into timer 3. -/

namespace Sys2Proof.Machine

open Sys2Proof

/-! ## Counting (R611, R612, R614) -/

/-- The counter within the `k`-th prescaler period: counting up to the first overflow, then around from the reload. -/
theorem Timer.value_period {i : Fin 4} {tm : Timer} {r : Nat} (hf : tm.freeCounting i = true) (hr : r < tm.prescale)
    (k : Nat) : tm.value i (tm.start + tm.prescale * k + r) =
      if k < 0x10000 - tm.counter0.toNat then BitVec.ofNat 16 (tm.counter0.toNat + k)
      else BitVec.ofNat 16
        (tm.reload.toNat + (k - (0x10000 - tm.counter0.toNat)) % (0x10000 - tm.reload.toNat)) := by
  have periods : (tm.start + tm.prescale * k + r - tm.start) / tm.prescale = k := by
    rw [Nat.add_assoc, Nat.add_sub_cancel_left, Nat.mul_add_div (by omega), Nat.div_eq_of_lt hr, Nat.add_zero]
  simp only [Timer.value, hf, if_true, periods]

/-- Settles O55: the periods before the first overflow, and those from it on. -/
theorem timerCounts : Obligations.TimerCounts := by
  intro i tm k r hf hc hr
  refine ⟨fun hk => ?_, fun q j hj => ?_⟩
  · rw [Timer.value_period hf hr, if_pos (by omega), BitVec.toNat_ofNat, Nat.mod_eq_of_lt hk]
  · have later : tm.overflowAt + tm.prescale * ((0x10000 - tm.reload.toNat) * q + j) + r =
        tm.start + tm.prescale * (0x10000 - tm.counter0.toNat + ((0x10000 - tm.reload.toNat) * q + j)) + r := by
      rw [Timer.overflowAt, Nat.mul_add tm.prescale (0x10000 - _), Nat.add_assoc tm.start]
    rw [later, Timer.value_period hf hr, if_neg (by omega), Nat.add_sub_cancel_left, Nat.mul_add_mod,
      Nat.mod_eq_of_lt hj, BitVec.toNat_ofNat, Nat.mod_eq_of_lt (by omega)]

/-! ## Overflow (R614, R615) -/

/-- A timer reloaded at an overflow. -/
def Timer.reloaded (t : Nat) (tm : Timer) : Timer := { tm with counter0 := tm.reload.zeroExtend 17, start := t }

section
variable {y : Sys} {i j : Fin 4} {tm : Timer} {t : Nat}

@[simp] theorem Sys.timer_setTimer_same : (y.setTimer i tm).timer i = tm := by simp [Sys.timer, Sys.setTimer]

theorem Sys.timer_setTimer_other (h : i ≠ j) : (y.setTimer i tm).timer j = y.timer j := by
  simp [Sys.timer, Sys.setTimer, Fin.val_ne_of_ne h]

/-- The next overflow of a reloaded timer. -/
theorem Timer.reloaded_overflowAt : (tm.reloaded t).overflowAt = t + tm.prescale * (0x10000 - tm.reload.toNat) := by
  have reload : (tm.reload.zeroExtend 17).toNat = tm.reload.toNat := by simp; omega
  exact congrArg (fun n => t + tm.prescale * (0x10000 - n)) reload

/-- The reload and the interrupt of an overflow, with the next overflow queued when the timer counts freely. -/
theorem Sys.timerReload_eq : y.timerReload i t =
    { (if (y.timer i).freeCounting i then
        (y.setTimer i ((y.timer i).reloaded t)).schedule ((y.timer i).reloaded t).overflowAt (.timer i)
      else y.setTimer i ((y.timer i).reloaded t)) with
      iflag := y.iflag ||| (if (y.timer i).control.getLsbD 6 then 1#16 <<< (3 + i.val) else 0#16) } := by
  unfold Sys.timerReload
  dsimp only
  have free : Timer.freeCounting i { y.timer i with counter0 := (y.timer i).reload.zeroExtend 17, start := t } =
      (y.timer i).freeCounting i := rfl
  rw [free]
  cases (y.timer i).freeCounting i <;> cases (y.timer i).control.getLsbD 6 <;>
    simp [Sys.requestIrq, Sys.setTimer, Timer.reloaded, Sys.schedule]

theorem Sys.timerReload_timers : (y.timerReload i t).timers = (y.setTimer i ((y.timer i).reloaded t)).timers := by
  rw [Sys.timerReload_eq]
  split <;> rfl

theorem Sys.timerReload_timer_same : (y.timerReload i t).timer i = (y.timer i).reloaded t := by
  rw [Sys.timer, Sys.timerReload_timers]
  exact Sys.timer_setTimer_same

theorem Sys.timerReload_timer_other (h : i ≠ j) : (y.timerReload i t).timer j = y.timer j := by
  rw [Sys.timer, Sys.timerReload_timers]
  exact Sys.timer_setTimer_other h

theorem Sys.timerReload_iflag : (y.timerReload i t).iflag =
    y.iflag ||| (if (y.timer i).control.getLsbD 6 then 1#16 <<< (3 + i.val) else 0#16) := by
  rw [Sys.timerReload_eq]

/-- A free-counting timer has its next overflow queued. -/
theorem Sys.timerReload_queued (h : (y.timer i).freeCounting i = true) :
    ⟨t + (y.timer i).prescale * (0x10000 - (y.timer i).reload.toNat), .timer i, y.nextSeq⟩ ∈ (y.timerReload i t).events := by
  rw [Sys.timerReload_eq, h, ← Timer.reloaded_overflowAt]
  exact (Sys.mem_schedule ..).2 (.inl rfl)

/-- A cascaded timer has no overflow queued. -/
theorem Sys.timerReload_events_cascaded (h : (y.timer i).freeCounting i = false) :
    (y.timerReload i t).events = y.events := by
  rw [Sys.timerReload_eq, h]
  rfl

/-- Timers 2 and 3 drive no FIFO. -/
theorem Sys.tickFifos_high (h : 2 ≤ i.val) : y.tickFifos i = .ok y := if_pos h

end

/-- The overflow of timer 3 ends with its reload. -/
theorem Sys.timerOverflow_last (y : Sys) (t fuel : Nat) : y.timerOverflow t fuel 3 = .ok (y.timerReload 3 t) := by
  unfold Sys.timerOverflow
  rw [Sys.tickFifos_high (by decide)]
  cases fuel <;> rfl

/-- The overflow of timer 2: its reload, then the count of timer 3, which may overflow in turn. -/
theorem Sys.timerOverflow_second (y : Sys) (t : Nat) : y.timerOverflow t 3 2 = .ok (
    let z := y.timerReload 2 t
    let t3 := y.timer 3
    let counted := z.setTimer 3 { t3 with counter0 := t3.counter0 + 1#17 }
    if t3.enabled && t3.control.getLsbD 2 then
      if t3.counter0 == 0xFFFF#17 then counted.timerReload 3 t else counted
    else z) := by
  have carry : (y.timer 3).counter0 + 1#17 = 0x10000#17 ↔ (y.timer 3).counter0 = 0xFFFF#17 := by bv_omega
  unfold Sys.timerOverflow
  rw [Sys.tickFifos_high (by decide)]
  have other : (y.timerReload 2 t).timer 3 = y.timer 3 := Sys.timerReload_timer_other (by decide)
  have next : index4 ((2 : Fin 4).val + 1) = 3 := rfl
  simp only [next, other, carry, beq_iff_eq, Sys.timerOverflow_last]
  rw [if_pos (by decide)]
  split
  · split <;> rfl
  · rfl

/-- Settles O56: the reload of timer 2 and, chained to it, the count or the reload of timer 3. -/
theorem timerOverflowCascades : Obligations.TimerOverflowCascades := by
  intro y t
  refine ⟨_, y.timerOverflow_second t, ?_⟩
  dsimp only
  cases hc : (y.timer 3).enabled && (y.timer 3).control.getLsbD 2
  case false =>
    exact ⟨Sys.timerReload_timer_same, Sys.timerReload_timer_other (by decide),
      Sys.timerReload_iflag.trans BitVec.or_zero.symm, Sys.timerReload_queued⟩
  case true =>
    cases hw : (y.timer 3).counter0 == 0xFFFF#17
    case false =>
      exact ⟨(Sys.timer_setTimer_other (by decide)).trans Sys.timerReload_timer_same, Sys.timer_setTimer_same,
        Sys.timerReload_iflag.trans BitVec.or_zero.symm, Sys.timerReload_queued⟩
    case true =>
      have cascaded : (y.timer 3).freeCounting 3 = false := by
        rw [Timer.freeCounting, Timer.cascaded, (Bool.and_eq_true_iff.1 hc).2]
        exact Bool.and_false _
      have counted (tm : Timer) (z : Sys) : (z.setTimer 3 tm).timer 3 = tm := Sys.timer_setTimer_same
      refine ⟨(Sys.timerReload_timer_other (by decide)).trans ((Sys.timer_setTimer_other (by decide)).trans
        Sys.timerReload_timer_same), ?_, ?_, fun h => ?_⟩
      · refine Sys.timerReload_timer_same.trans ?_
        rw [counted]
        rfl
      · refine Sys.timerReload_iflag.trans ?_
        rw [counted]
        exact congrArg (· ||| _) Sys.timerReload_iflag
      · rw [if_pos rfl, if_pos rfl, Sys.timerReload_events_cascaded (by rw [counted]; exact cascaded)]
        exact Sys.timerReload_queued h

end Sys2Proof.Machine
end

section
/-! PROOFS. O54, O57 (spec/20_memory.md R126, R127, 60_exceptions.md R566..R568, R575, 61_timers_dma.md R620, R622): accesses
of single I/O registers through the bus. -/

namespace Sys2Proof.Machine

open Sys2Proof

/-- A write of all lanes stores the bits of the write mask and leaves the others (20_memory.md R127). -/
theorem mergeLanes_allLanes (wm old value : Half) :
    mergeLanes wm old value 0xFFFF#16 = (old &&& ~~~wm) ||| (value &&& wm) := by
  have all : (0xFFFF#16 : Half) = BitVec.allOnes 16 := rfl
  rw [mergeLanes, all, BitVec.and_allOnes, BitVec.allOnes_and]

/-! ## The interrupt registers (60_exceptions.md R566..R568, R575) -/

/-- A byte written at an even address stands in the low lane (20_memory.md R126). -/
theorem lowLane (b : Byte) : (b.zeroExtend 16 <<< 0 &&& 0x00FF#16 : Half) = 0#8 ++ b := by
  revert b; decide

/-- A byte written at an odd address stands in the high lane (20_memory.md R126). -/
theorem highLane (b : Byte) : (b.zeroExtend 16 <<< 8 &&& 0xFF00#16 : Half) = b ++ 0#8 := by
  revert b; decide

/-- HALTCNT written as a byte (60_exceptions.md R575). -/
theorem Sys.writePostHalt_highLane (y : Sys) (b : Byte) : y.writePostHalt (b.zeroExtend 16 <<< 8) 0xFF00#16 =
    if b.getLsbD 7 then .error (.unmodelled .stop) else .ok { y with halted := true } := by
  have stop : (b.zeroExtend 16 <<< 8 : Half).getLsbD 15 = b.getLsbD 7 := by simp
  rw [Sys.writePostHalt, stop]
  rfl

/-- A read of the I/O region is no read of the EEPROM window (20_memory.md R106). -/
theorem Sys.memRead_io (y : Sys) {w : Width} {a : Word} (h : Region.of (w.align a) = .io) :
    (y.memRead w a).1 = y.peekAligned w (w.align a) := by
  have outside : y.inEepromWindow (w.align a) = false :=
    Bool.eq_false_iff.2 fun hw => absurd (h.symm.trans (Region.of_eepromWindow hw)) (by decide)
  simp [Sys.memRead, outside]

/-- Settles O54: each access is the access of its register, in the lanes of its width. -/
theorem interruptRegisters : Obligations.InterruptRegisters := by
  intro y v
  refine ⟨?writeIe, y.memRead_io rfl, ?writeIf, ?writeIfLow, ?writeIfHigh, y.memRead_io rfl, ?writeIme, ?readIme, ?haltcnt⟩
  case writeIe =>
    change y.ioWrite16 .ie _ _ = _
    rw [Sys.ioWrite16, mergeLanes_allLanes]
    rfl
  case writeIf => exact congrArg (fun h => Except.ok { y with iflag := y.iflag &&& ~~~h }) BitVec.and_allOnes
  case writeIfLow => exact congrArg (fun h => Except.ok { y with iflag := y.iflag &&& ~~~h }) (lowLane _)
  case writeIfHigh => exact congrArg (fun h => Except.ok { y with iflag := y.iflag &&& ~~~h }) (highLane _)
  case writeIme =>
    have bit : (v.extractLsb' 0 16).getLsbD 0 = v.getLsbD 0 := by simp
    exact congrArg (fun b => Except.ok { y with ime := b }) bit
  case readIme =>
    rw [y.memRead_io rfl]
    change (y.ioRead16 .ime).zeroExtend 32 = _
    rw [Sys.ioRead16]
    split <;> rfl
  case haltcnt =>
    have bit : (v.extractLsb' 0 8).getLsbD 7 = v.getLsbD 7 := by simp
    rw [← bit]
    exact y.writePostHalt_highLane _

/-! ## DMA control (61_timers_dma.md R620, R622) -/

/-- A halfword write of DMAxCNT_H through the bus. -/
theorem Sys.memWrite_dmaCntH (y : Sys) (c : Fin 4) (v : Word) :
    y.memWrite .half (0x040000BA#32 + BitVec.ofNat 32 (12 * c.val)) v =
      y.writeDmaCntH c (mergeLanes (dmaCntHMask c) (y.dmaChannel c).cntH (v.extractLsb' 0 16) 0xFFFF#16) := by
  fin_cases c <;> rfl

section
variable {y : Sys} {c : Fin 4} {new : Half}

/-- A channel as the write that arms it leaves it: source, destination and count latched (R622). -/
def DmaChannel.latched (c : Fin 4) (new : Half) (d : DmaChannel) : DmaChannel :=
  { d with cntH := new, isrc := d.sad, idst := d.dad, icount := d.count c, armed := true }

/-- Setting the enable bit arms the channel, by its start timing. -/
theorem Sys.writeDmaCntH_arms (was : (y.dmaChannel c).cntH.getLsbD 15 = false) (wants : new.getLsbD 15 = true) :
    y.writeDmaCntH c new =
      (let armed := y.setDma c ((y.dmaChannel c).latched c new)
       if new.extractLsb' 12 2 = 0#2 then .ok (armed.schedule y.now (.dma c))
       else if new.extractLsb' 12 2 = 3#2 ∧ c.val = 3 then .error (.unmodelled .dma3VideoCapture)
       else .ok armed) := by
  have timings : ∀ t : BitVec 2, t = 0#2 ∨ t = 1#2 ∨ t = 2#2 ∨ t = 3#2 := by decide
  simp only [Sys.writeDmaCntH, was, wants, DmaTiming.of, Bool.not_false, Bool.and_self, if_true]
  rcases timings (new.extractLsb' 12 2) with ht | ht | ht | ht <;> rw [ht]
  case inr.inr.inr =>
    by_cases hc : c.val = 3 <;> simp [hc, DmaChannel.latched]
  all_goals rfl

/-- Clearing the enable bit disarms the channel and cancels its run. -/
theorem Sys.writeDmaCntH_disarms (was : (y.dmaChannel c).cntH.getLsbD 15 = true) (wants : new.getLsbD 15 = false) :
    y.writeDmaCntH c new = .ok ((y.setDma c { y.dmaChannel c with cntH := new, armed := false }).cancel (.dma c)) := by
  simp only [Sys.writeDmaCntH, was, wants, Bool.not_true, Bool.not_false, Bool.and_self, Bool.false_eq_true, if_false,
    if_true]

/-- Any other write changes the stored bits only. -/
theorem Sys.writeDmaCntH_keeps (same : (y.dmaChannel c).cntH.getLsbD 15 = new.getLsbD 15) :
    y.writeDmaCntH c new = .ok (y.setDma c { y.dmaChannel c with cntH := new }) := by
  simp only [Sys.writeDmaCntH, same, Bool.not_and_self, Bool.and_not_self, Bool.false_eq_true, if_false]

end

/-- Settles O57: the write goes to the control register, whose three cases are told by the two enable bits. -/
theorem dmaArming : Obligations.DmaArming := by
  intro y c v d a wm new count armed
  have write : y.memWrite .half a v = y.writeDmaCntH c new := by
    rw [Sys.memWrite_dmaCntH, mergeLanes_allLanes]
    rfl
  rw [write]
  exact ⟨Sys.writeDmaCntH_arms, Sys.writeDmaCntH_disarms, Sys.writeDmaCntH_keeps⟩

end Sys2Proof.Machine
end

section
/-! PROOFS. O58 (spec/61_timers_dma.md R636..R638, 20_memory.md R122, R124): one unit of a word run from EWRAM to IWRAM moves
one word, and the run is the induction over its units. -/

namespace Sys2Proof.Machine

open Sys2Proof

/-! ## Addresses of the run -/

/-- `a` is the word-aligned address at the offset `o` of a RAM region of `size` bytes that starts at `base`. -/
structure RamWord (a : Word) (r : Region) (base size o : Nat) : Prop where
  address : a = BitVec.ofNat 32 (base + o)
  aligned : o % 4 = 0
  region  : (r = .ewram ∧ base = 0x02000000 ∧ size = 0x40000) ∨ (r = .iwram ∧ base = 0x03000000 ∧ size = 0x8000)
  inside  : o ≤ size

namespace RamWord

variable {a : Word} {r : Region} {base size o : Nat} (h : RamWord a r base size o)

include h

theorem toNat : a.toNat = base + o := by
  obtain ⟨rfl, -, hr, ho⟩ := h
  rw [BitVec.toNat_ofNat]
  omega

theorem align_word : Width.word.align a = a := by
  have := h.toNat
  obtain ⟨-, ho, hr, -⟩ := h
  rw [← BitVec.toNat_inj, Width.align_toNat]
  simp only [Width.bytes]
  omega

theorem region_of : Region.of a = r := by
  have := h.toNat
  obtain ⟨-, -, ⟨rfl, rfl, rfl⟩ | ⟨rfl, rfl, rfl⟩, ho⟩ := h
  · have : a.toNat / 0x1000000 = 2 := by omega
    simp [Region.of, this]
  · have : a.toNat / 0x1000000 = 3 := by omega
    simp [Region.of, this]

theorem ramAt : RamAt a base size := by
  unfold RamAt
  rw [h.region_of]
  exact h.region

theorem key (hi : o < size) : base + a.toNat / 4 * 4 % size = base + o := by
  have := h.toNat
  obtain ⟨-, ho, ⟨-, rfl, rfl⟩ | ⟨-, rfl, rfl⟩, -⟩ := h <;> omega

theorem next (hi : o + 4 ≤ size) : RamWord (a + 4#32) r base size (o + 4) where
  address := by rw [h.address, ← Nat.add_assoc, BitVec.ofNat_add (base + o)]
  aligned := by have := h.aligned; omega
  region := h.region
  inside := hi

theorem memRead (hi : o < size) (y : Sys) : y.memRead .word a = (Memory.read32 y.mem (base + o), y) := by
  rw [h.ramAt.memRead]
  exact congrArg (fun k => (Memory.read32 y.mem k, y)) (h.key hi)

theorem memWrite (hi : o < size) (y : Sys) (v : Word) :
    y.memWrite .word a v = .ok (y.withMem (Memory.write32 y.mem (base + o) v)) := by
  rw [h.ramAt.memWrite]
  exact congrArg (fun k => Except.ok (y.withMem (Memory.write32 y.mem k v))) (h.key hi)

end RamWord

/-- A word of EWRAM takes six cycles and one of IWRAM one (20_memory.md R122). -/
theorem RamWord.cost_ewram {a : Word} {base size o : Nat} (h : RamWord a .ewram base size o) (waitcnt : Half)
    (kind : Access) : accessCost waitcnt kind .word a = 6 := by
  simp [accessCost, h.region_of]

theorem RamWord.cost_iwram {a : Word} {base size o : Nat} (h : RamWord a .iwram base size o) (waitcnt : Half)
    (kind : Access) : accessCost waitcnt kind .word a = 1 := by
  simp [accessCost, h.region_of]

/-! ## The run -/

/-- A channel that copies words forward from the offset `src` of EWRAM to the offset `dst` of IWRAM. -/
structure CopiesWords (d : DmaChannel) (src dst : Nat) : Prop where
  source     : RamWord d.isrc .ewram 0x02000000 0x40000 src
  dest       : RamWord d.idst .iwram 0x03000000 0x8000 dst
  sourceStep : d.cntH.extractLsb' 7 2 = 0#2
  destStep   : d.cntH.extractLsb' 5 2 = 0#2

/-- What a run of `n` words leaves: the words copied, everything else that matters to it as it was. -/
structure WordsCopied (c : Fin 4) (src dst n : Nat) (y z : Sys) : Prop where
  copied : ∀ k, k < n → Memory.read32 z.mem (iwramKey (dst + 4 * k)) = Memory.read32 y.mem (ewramKey (src + 4 * k))
  others : ∀ k, within (iwramKey dst) (4 * n) k = false → Memory.read z.mem k = Memory.read y.mem k
  now    : z.now = y.now
  iflag  : z.iflag = y.iflag
  cntH   : (z.dmaChannel c).cntH = (y.dmaChannel c).cntH

/-- A channel after a unit of a word, both addresses ascending. -/
def DmaChannel.stepped (d : DmaChannel) : DmaChannel := { d with isrc := d.isrc + 4#32, idst := d.idst + 4#32 }

/-- The system after a unit of a word from the offset `src` of EWRAM to the offset `dst` of IWRAM. -/
def Sys.wordMoved (c : Fin 4) (src dst : Nat) (y : Sys) : Sys :=
  (y.withMem (Memory.write32 y.mem (iwramKey dst) (Memory.read32 y.mem (ewramKey src)))).setDma c (y.dmaChannel c).stepped

section
variable {y : Sys} {c : Fin 4} {src dst : Nat}

@[simp] theorem Sys.dmaChannel_setDma (y : Sys) (c : Fin 4) (d : DmaChannel) : (y.setDma c d).dmaChannel c = d := by
  simp [Sys.dmaChannel, Sys.setDma]

theorem CopiesWords.nextSource {d : DmaChannel} (h : CopiesWords d src dst) : d.nextSource .word = d.isrc + 4#32 := by
  unfold DmaChannel.nextSource
  rw [h.sourceStep]
  exact ite_self _

theorem CopiesWords.nextDest {d : DmaChannel} (h : CopiesWords d src dst) : d.nextDest .word false = d.idst + 4#32 := by
  unfold DmaChannel.nextDest
  rw [h.destStep]
  rfl

/-- One unit: a word moved, seven cycles, both addresses four on. -/
theorem CopiesWords.unit (h : CopiesWords (y.dmaChannel c) src dst) (hs : src + 4 ≤ 0x40000) (hd : dst + 4 ≤ 0x8000)
    (kind : Access) : y.dmaUnit c kind .word false = .ok (y.wordMoved c src dst, 7) := by
  unfold Sys.dmaUnit
  simp only [h.source.align_word, h.dest.align_word, h.source.memRead (by omega), h.dest.memWrite (by omega),
    h.source.cost_ewram, h.dest.cost_iwram, Sys.dmaAdvance]
  change Except.ok (Sys.setDma c { y.dmaChannel c with
    isrc := (y.dmaChannel c).nextSource .word, idst := (y.dmaChannel c).nextDest .word false } _, 7) = _
  rw [h.nextSource, h.nextDest]
  rfl

/-- The channel after a unit copies on from the next words. -/
theorem CopiesWords.next {d : DmaChannel} (h : CopiesWords d src dst) (hs : src + 4 ≤ 0x40000) (hd : dst + 4 ≤ 0x8000) :
    CopiesWords d.stepped (src + 4) (dst + 4) :=
  ⟨h.source.next hs, h.dest.next hd, h.sourceStep, h.destStep⟩

theorem Memory.read32_congr {m m' : List Host.Cell} {k : Nat}
    (h : ∀ j, j < 4 → Memory.read m (k + j) = Memory.read m' (k + j)) : Memory.read32 m k = Memory.read32 m' k := by
  have h0 : Memory.read m k = Memory.read m' k := h 0 (by decide)
  have h1 := h 1 (by decide)
  have h2 := h 2 (by decide)
  have h3 := h 3 (by decide)
  simp only [Memory.read32, Memory.read16, Nat.add_assoc, Nat.reduceAdd, h0, h1, h2, h3]

/-- The moved word stands at its destination, and the other bytes are as they were. -/
theorem Sys.wordMoved_read32 : Memory.read32 (y.wordMoved c src dst).mem (iwramKey dst) = Memory.read32 y.mem (ewramKey src) :=
  Memory.readLE_writeLE_same y.mem .word (iwramKey dst) _

theorem Sys.wordMoved_other {k : Nat} (h : k < iwramKey dst ∨ iwramKey dst + 4 ≤ k) :
    Memory.read (y.wordMoved c src dst).mem k = Memory.read y.mem k :=
  Memory.read_writeLE_other y.mem .word (iwramKey dst) _ h

/-- A word moved, then the words after it: the sources are never written, and each destination is written once. -/
theorem WordsCopied.cons {z : Sys} {n : Nat} (hs : src + 4 * n + 4 ≤ 0x40000)
    (h : WordsCopied c (src + 4) (dst + 4) n (y.wordMoved c src dst) z) : WordsCopied c src dst (n + 1) y z where
  copied k hk := by
    cases k with
    | zero =>
      refine Eq.trans (Memory.read32_congr fun j hj => h.others _ ?_) Sys.wordMoved_read32
      rw [within_eq_false_iff]
      simp only [iwramKey]
      omega
    | succ k =>
      have later := h.copied k (by omega)
      rw [Nat.add_assoc dst, Nat.add_assoc src, Nat.add_comm 4, ← Nat.mul_succ] at later
      refine later.trans (Memory.read32_congr fun j hj => Sys.wordMoved_other (.inl ?_))
      simp only [ewramKey, iwramKey]
      omega
  others k hk := by
    rw [within_eq_false_iff] at hk
    have outside : k < iwramKey dst ∨ iwramKey dst + 4 ≤ k := by omega
    refine (h.others k ?_).trans (Sys.wordMoved_other outside)
    rw [within_eq_false_iff]
    simp only [iwramKey] at hk ⊢
    omega
  now := h.now
  iflag := h.iflag
  cntH := h.cntH.trans (by rw [Sys.wordMoved, Sys.dmaChannel_setDma]; rfl)

/-- The units of a run, the first of any class. -/
theorem CopiesWords.units {n : Nat} (h : CopiesWords (y.dmaChannel c) src dst) (hs : src + 4 * n ≤ 0x40000)
    (hd : dst + 4 * n ≤ 0x8000) (kind : Access) (cost : Nat) :
    ∃ z, y.dmaUnits c .word false n kind cost = .ok (z, cost + 7 * n) ∧ WordsCopied c src dst n y z := by
  induction n generalizing y src dst kind cost with
  | zero => exact ⟨y, rfl, fun _ hk => absurd hk (Nat.not_lt_zero _), fun _ _ => rfl, rfl, rfl, rfl⟩
  | succ n ih =>
    have next := h.next (by omega) (by omega)
    rw [← Sys.dmaChannel_setDma _ c (y.dmaChannel c).stepped] at next
    obtain ⟨z, hz, rest⟩ := ih (y := y.wordMoved c src dst) next (by omega) (by omega) .seq (cost + 7)
    refine ⟨z, ?_, rest.cons (by omega)⟩
    rw [Sys.dmaUnits, h.unit (by omega) (by omega)]
    exact hz.trans (by rw [Nat.mul_succ, Nat.add_assoc, Nat.add_comm 7])

/-- A start timing other than Special is no FIFO mode (R636). -/
theorem DmaChannel.fifoMode_of_timing {d : DmaChannel} (h : d.cntH.extractLsb' 12 2 ≠ 3#2) : d.fifoMode c = false := by
  have special : DmaTiming.of d.cntH ≠ .special := by
    unfold DmaTiming.of
    generalize d.cntH.extractLsb' 12 2 = t at h ⊢
    revert t
    decide
  simp [DmaChannel.fifoMode, special]

/-- A destination in RAM decides no EEPROM's size (20_memory.md R152). -/
theorem CopiesWords.sizeEeprom {d : DmaChannel} (h : CopiesWords d src dst) (units : Nat) :
    y.sizeEeprom c d.idst units = y := by
  have outside := h.dest.ramAt.not_window y .word
  rw [h.dest.align_word] at outside
  simp [Sys.sizeEeprom, outside]

/-- The system after the units of a run that took `cost` cycles: the clock and the interrupt (R636, R638). -/
def Sys.dmaFinished (c : Fin 4) (cost : Nat) (y : Sys) : Sys :=
  { y with
    now := y.now + (cost + 2)
    iflag := if (y.dmaChannel c).cntH.getLsbD 14 then y.iflag ||| (1#16 <<< (8 + c.val)) else y.iflag }

/-- A run by words outside the FIFO mode, once its units are done. -/
theorem CopiesWords.runDma {z : Sys} {n cost : Nat} (h : CopiesWords (y.dmaChannel c) src dst)
    (timing : (y.dmaChannel c).cntH.extractLsb' 12 2 ≠ 3#2) (wide : (y.dmaChannel c).cntH.getLsbD 10 = true)
    (count : (y.dmaChannel c).icount.toNat = n) (units : y.dmaUnits c .word false n .nonseq 0 = .ok (z, cost)) :
    y.runDma c = .ok ((z.dmaFinished c cost).dmaComplete c) := by
  simp only [Sys.runDma, DmaChannel.units, DmaChannel.width, DmaChannel.fifoMode_of_timing timing, wide, count,
    h.sizeEeprom, units, Bool.or_true, if_true, Bool.false_eq_true, if_false]
  refine congrArg (fun x : Sys => Except.ok (x.dmaComplete c)) ?_
  change (if (z.dmaChannel c).cntH.getLsbD 14 then _ else _) = _
  unfold Sys.dmaFinished
  split <;> rfl

end

/-- The completion of a run moves neither memory, clock nor interrupt requests (R637). -/
theorem Sys.dmaComplete_eq (y : Sys) (c : Fin 4) : y.dmaComplete c = { y with dma := (y.dmaComplete c).dma } := by
  unfold Sys.dmaComplete
  dsimp only
  split <;> rfl

/-- Without Repeat the channel is disarmed and its enable bit cleared (R637). -/
theorem Sys.dmaComplete_once {y : Sys} {c : Fin 4} (h : (y.dmaChannel c).cntH.getLsbD 9 = false) :
    (y.dmaComplete c).dmaChannel c =
      { y.dmaChannel c with cntH := (y.dmaChannel c).cntH &&& 0x7FFF#16, armed := false } := by
  rw [Sys.dmaComplete]
  simp only [h, Bool.false_eq_true, if_false, Sys.dmaChannel_setDma]

/-- Settles O58: the units copy the words, and the completion follows the clock and the interrupt. -/
theorem dmaCopiesWords : Obligations.DmaCopiesWords := by
  intro y c n src dst d hs hd hsrc hdst isrc idst count timing wide srcStep dstStep
  have copies : CopiesWords d src dst :=
    ⟨⟨isrc, hs, .inl ⟨rfl, rfl, rfl⟩, by omega⟩, ⟨idst, hd, .inr ⟨rfl, rfl, rfl⟩, by omega⟩, srcStep, dstStep⟩
  obtain ⟨w, hw, copied⟩ := copies.units hsrc hdst .nonseq 0
  have run := copies.runDma timing wide count hw
  have ended := Sys.dmaComplete_eq (w.dmaFinished c (0 + 7 * n)) c
  have cntH : ((w.dmaFinished c (0 + 7 * n)).dmaChannel c).cntH = d.cntH := copied.cntH
  refine ⟨_, run, ?_, ?_, ?_, ?_, fun once => ?_⟩
  · rw [ended]; exact copied.copied
  · rw [ended]; exact copied.others
  · rw [ended]
    change w.now + (0 + 7 * n + 2) = _
    rw [copied.now]
    omega
  · rw [ended]
    change (if (w.dmaChannel c).cntH.getLsbD 14 then w.iflag ||| _ else w.iflag) = _
    rw [copied.cntH, copied.iflag]
  · rw [Sys.dmaComplete_once (by rw [cntH]; exact once), cntH]
    exact ⟨rfl, rfl⟩

end Sys2Proof.Machine
end

section
/-! PROOFS. O45 (spec/60_exceptions.md R585): in User mode the three writes that reach the mode elsewhere do not: MSR writes the
flags only, and there is no SPSR to return from. -/

namespace Sys2Proof.Machine

open Sys2Proof

/-- The mode, the masks and the SPSRs of `t` are those of `s`. -/
structure Confined (s t : State) : Prop where
  mode : t.cpu.cpsr.m = s.cpu.cpsr.m
  i    : t.cpu.cpsr.i = s.cpu.cpsr.i
  f    : t.cpu.cpsr.f = s.cpu.cpsr.f
  spsr : t.cpu.spsr = s.cpu.spsr

section
variable {e : Effects} {l : List (Bank × RegNum)} {s t : State}

theorem Frame.confined (h : Frame e l s t) (hm : e.mode = false := by rfl) (hs : e.spsr = false := by rfl) : Confined s t :=
  have ⟨mode, i, f⟩ := h.mode hm
  ⟨mode, i, f, h.spsr hs⟩

theorem frame_confined {r : Result} (h : Holds (Frame e l s) r) (hm : e.mode = false := by rfl)
    (hs : e.spsr = false := by rfl) : Holds (Confined s) r := h.imp fun _ h => h.confined hm hs

theorem confined_whenPassed {c : Cond} {k : State → Result} (h : Holds (Confined s) (k s)) :
    Holds (Confined s) (s.whenPassed c k) := .whenPassed (fun _ => h) (fun _ => ⟨rfl, rfl, rfl, rfl⟩)

/-- Data processing without an SPSR: the return from an exception restores nothing. -/
theorem dataProcessing_confined {op : DpOp} {w : Bool} {rd : RegNum} {a b : Word} {sc : Bool}
    (hn : s.cpu.currentSpsr = none) : Holds (Confined s) (dataProcessing op w rd a b sc s) := by
  by_cases hret : w = true ∧ dpWritesRd op = true ∧ rd = 15#4
  · obtain ⟨rfl, hop, rfl⟩ := hret
    rw [dataProcessing_return _ _ _ _ _ hop, State.restoreCpsr_none hn]
    split
    · exact .fault _ _
    · exact .next ⟨rfl, rfl, rfl, rfl⟩
  · have frame := (Frame.refl (.flagsWhen true) (own s [rd]) s).dataProcessing (op := op) (w := w) (rd := rd) (a := a)
      (b := b) (sc := sc) (fun _ => .inr (mem_own (List.mem_singleton_self _))) (fun _ => rfl)
      (fun hw hop hr => absurd ⟨hw, hop, hr⟩ hret)
    exact frame_confined frame

theorem dpShiftRegister_confined {op : DpOp} {w : Bool} {rn rd rs : RegNum} {k : ShiftKind} {rm : RegNum}
    (hn : s.cpu.currentSpsr = none) : Holds (Confined s) (dpShiftRegister op w rn rd rs k rm s) :=
  have charged : Holds (Confined (s.internal 1)) _ := dataProcessing_confined hn
  .unpredictable (.unpredictable (charged.imp fun _ h => ⟨h.mode, h.i, h.f, h.spsr⟩))

/-- MSR in User mode writes the flags only (42_arm_psr_branch.md R331). -/
theorem writePsr_confined {r : Bool} {mask : BitVec 4} {v : Word} (hu : s.cpu.userMode = true)
    (hn : s.cpu.currentSpsr = none) : Holds (Confined s) (writePsr r mask v s) :=
  frame_confined ((Frame.refl (.flagsWhen true) [] s).writePsr (fun _ _ => rfl)
    (fun _ _ h => absurd (hu.symm.trans h) (by decide)) (fun _ h => absurd hn h))

/-- LDM with `S = 1` in User mode is the plain one (43_arm_loadstore.md R370). -/
theorem ldmS_confined {p u w : Bool} {rn : RegNum} {list : BitVec 16} (hn : s.cpu.noSpsr = true) :
    Holds (Confined s) (blockTransferS true p u w rn list s) :=
  .unpredictable (.ite (fun _ => frame_confined (ldm_frame (e := .none))) (fun h => absurd hn h))

end

/-- No instruction but those that take an exception leaves User mode or writes an SPSR. -/
theorem exec_confined (i : Instr) {s : State} (hm : s.cpu.cpsr.m = Mode.user.bits) (hswi : i.raisesSwi = false)
    (hund : i.raisesUndefined = false) : Holds (Confined s) (exec i s) := by
  have user : s.cpu.userMode = true := beq_iff_eq.2 hm
  have noSpsr : s.cpu.noSpsr = true := by rw [Cpu.noSpsr, Cpu.bank, hm]; rfl
  have none : s.cpu.currentSpsr = none := (Cpu.currentSpsr_eq_none_iff _).2 noSpsr
  cases i
  case andShi | eorShi | subShi | rsbShi | addShi | adcShi | sbcShi | rscShi | orrShi | movShi | bicShi | mvnShi |
      andImm | eorImm | subImm | rsbImm | addImm | adcImm | sbcImm | rscImm | orrImm | movImm | bicImm | mvnImm =>
    exact confined_whenPassed (dataProcessing_confined none)
  case andShr | eorShr | subShr | rsbShr | addShr | adcShr | sbcShr | rscShr | orrShr | movShr | bicShr | mvnShr =>
    exact confined_whenPassed (dpShiftRegister_confined none)
  case msrReg => exact confined_whenPassed (.unpredictable (writePsr_confined user none))
  case msrImm => exact confined_whenPassed (writePsr_confined user none)
  case ldmS => exact confined_whenPassed (ldmS_confined noSpsr)
  case swi | tSwi => cases hswi
  case ldcStc | cdp | mrcMcr | undefMul00001 | undefMul00011 | undefSwpX1 | undefSwp10 | undefLdrdStrd | undefMiscBx00 |
      undefMiscBx10 | undefMiscBx11 | undefMisc01xx | undefMisc001x | undefMisc1xx0 | undefMovStatus | undefMedia |
      tUndef10110001 | tUndef1011001x | tUndef1011011x | tUndef101110xx | tUndef1011111x | tUndef11011110 | tUndef11101 =>
    cases hund
  all_goals exact frame_confined (exec_frame _ s)

/-- Settles O45. -/
theorem userModeConfined : Obligations.UserModeConfined := by
  intro i s t hm hswi hund h
  obtain ⟨mode, i, f, spsr⟩ := exec_confined i hm hswi hund t h
  exact ⟨mode.trans hm, i, f, spsr⟩

end Sys2Proof.Machine
end

section
/-! PROOFS. O33, O34, O40 (spec/47_thumb_branch.md R530..R534, 60_exceptions.md R550, R551, R556, R561, R569, R576, R577): the
THUMB branches, the entry to an exception, and the end of a step. -/

namespace Sys2Proof.Machine

open Sys2Proof

/-! ## THUMB branches (47_thumb_branch.md R530..R534) -/

theorem blOffsetLow_eq (o : BitVec 11) : blOffsetLow o = 2#32 * o.zeroExtend 32 := by
  have low : (o ++ 0#1).toNat = 2 * o.toNat := by
    rw [BitVec.toNat_append, Nat.shiftLeft_eq]
    simp [Nat.mul_comm]
  apply BitVec.eq_of_toNat_eq
  rw [blOffsetLow, BitVec.toNat_mul]
  simp only [BitVec.zeroExtend, BitVec.toNat_setWidth, low]
  simp

/-- Settles O40: in THUMB state `PCread` is `A + 4`. -/
theorem thumbBranches : Obligations.ThumbBranches := by
  intro c h1 h2 rs rd o8 o11 st ht
  have hpc : st.pcRead = st.cpu.pc + 4#32 := by rw [State.pcRead_eq, if_pos ht]
  rw [← hpc, ← blOffsetLow_eq]
  refine ⟨fun hc => ?conditional, rfl, ?linkHigh, ?linkLow, fun hs => ?exchange⟩
  case conditional =>
    have branch : thumbBranchCond c o8 st = .next (st.branch (st.pcRead + (o8 ++ 0#1).signExtend 32)) :=
      State.whenPassed_pass hc
    exact ⟨branch, branch, branch⟩
  case linkHigh => exact congrArg Host.Outcome.next (State.finish_of_ne st 14#4 _ (by decide))
  case linkLow =>
    change Host.Outcome.next ((st.setReg 14#4 ((st.cpu.pc + 2#32) ||| 1#32)).branch _) = _
    rw [State.setReg_of_ne st 14#4 _ (by decide)]
  case exchange => exact State.unpredictable_ok hs

/-! ## Exception entry (60_exceptions.md R550, R551, R556) -/

/-- A branch changes the program counter and the pipeline of the CPU only. -/
theorem State.branch_cpu (s : State) (a : Word) :
    (s.branch a).cpu = s.cpu.refilled (alignPc s.cpu.cpsr.t a) (s.branch a).cpu.pipe0 (s.branch a).cpu.pipe1 := rfl

/-- A fetch writes no memory. -/
theorem Sys.fetch_mem (y : Sys) (kind : Access) (thumb : Bool) (a : Word) : (y.fetch kind thumb a).2.mem = y.mem := by
  rw [Sys.fetch, Sys.memFetch_eq]
  rfl

theorem State.branch_mem (s : State) (a : Word) : (s.branch a).sys.mem = s.sys.mem :=
  (Sys.fetch_mem _ _ _ _).trans (Sys.fetch_mem _ _ _ _)

/-- The CPU that enters an exception, before the branch to the vector (R551). -/
def Cpu.entering (e : Exception) (ret : Word) (c : Cpu) : Cpu :=
  (Cpu.setBankReg e.mode.bank 14#4 ret { c with cpsr := e.cpsr c.cpsr }).setCurrentSpsr c.cpsr

theorem State.enterException_eq (e : Exception) (ret : Word) (s : State) :
    s.enterException e ret = State.branch e.vector { s with cpu := s.cpu.entering e ret } := rfl

section
variable (e : Exception) (ret : Word) (c : Cpu)

theorem Cpu.entering_cpsr : (c.entering e ret).cpsr = e.cpsr c.cpsr := by simp [Cpu.entering]

theorem Cpu.entering_regs : (c.entering e ret).regs = c.regs.set (physIndex e.mode.bank 14#4) ret := by
  simp [Cpu.entering, Cpu.setBankReg]

/-- Every mode an exception enters has an SPSR, which holds the old CPSR. -/
theorem Cpu.entering_spsr : ∃ j, e.mode.bank.spsrIndex = some j ∧ (c.entering e ret).spsr = c.spsr.set j c.cpsr := by
  cases e <;> exact ⟨_, rfl, rfl⟩

end

theorem Exception.setsF_eq (e : Exception) : e.setsF = (e == .reset || e == .fiq) := by cases e <;> rfl

/-- Settles O33: an entry writes one register, one SPSR and the CPSR, and branches to the vector. -/
theorem exceptionEntry : Obligations.ExceptionEntry := by
  refine ⟨fun e ret s => ?entry, fun p m hp => ?powerOn, by decide⟩
  case entry =>
    dsimp only
    rw [State.enterException_eq, State.branch_cpu, State.branch_mem]
    have hregs := Cpu.entering_regs e ret s.cpu
    refine ⟨?cpsr, fun _ => ⟨?link, Cpu.entering_spsr e ret s.cpu⟩, fun k hk => ?others, ?pc, rfl⟩
    case cpsr => exact (Cpu.entering_cpsr e ret s.cpu).trans (by rw [Exception.cpsr, Exception.setsF_eq])
    case link => exact (congrArg (·[physIndex e.mode.bank 14#4]) hregs).trans (Vector.getElem_set_self _)
    case others =>
      exact (congrArg (·[k]) hregs).trans (Vector.getElem_set_ne _ _ fun h => hk (Fin.ext h.symm))
    case pc =>
      have thumb : (s.cpu.entering e ret).cpsr.t = false := by rw [Cpu.entering_cpsr]; rfl
      change alignPc (s.cpu.entering e ret).cpsr.t e.vector = e.vector
      rw [thumb]
      cases e <;> decide
  case powerOn =>
    have hs : State.powerOn p m =
        ((State.unstarted p m).branch 0#32).withSys { ((State.unstarted p m).branch 0#32).sys with cost := 0 } := by
      rw [State.powerOn, hp]
      rfl
    dsimp only
    rw [hs]
    refine ⟨?_, ?_, rfl, rfl, State.branch_mem (State.unstarted p m) 0#32⟩
    · change Psr.toWord Psr.reset = _
      decide
    · change alignPc false 0#32 = 0#32
      decide

/-! ## The end of a step (60_exceptions.md R561, R569, R576, R577) -/

theorem State.checkIrq_of_halted {s : State} (h : s.sys.halted = true) : s.checkIrq = s := by simp [State.checkIrq, h]

theorem State.checkIrq_of_running {s : State} (h : s.sys.halted = false) :
    s.checkIrq = if s.sys.wake && s.sys.ime && !s.cpu.cpsr.i then s.takeIrq.commit else s := by
  rw [State.checkIrq, h, Sys.irqPending, Bool.and_comm s.sys.ime]
  rfl

/-- Only a halt with no request keeps the CPU halted. -/
theorem State.wakeUp_eq (s : State) :
    s.wakeUp = if s.sys.halted && !s.sys.wake then s else s.withSys { s.sys with halted := false } := by
  cases hh : s.sys.halted with
  | false =>
    have same : s = s.withSys { s.sys with halted := false } := by rw [← hh]; rfl
    simpa [State.wakeUp, hh] using same
  | true => cases hw : s.sys.wake <;> simp [State.wakeUp, hh, hw]

/-- The end of a step whose dispatch is done: the end of a halt, then the IRQ check. -/
def State.afterDispatch (s : State) : State :=
  if s.sys.halted && !s.sys.wake then s
  else if s.sys.wake && s.sys.ime && !s.cpu.cpsr.i then
    (s.withSys { s.sys with halted := false }).takeIrq.commit
  else s.withSys { s.sys with halted := false }

theorem State.wakeUp_checkIrq (s : State) : s.wakeUp.checkIrq = s.afterDispatch := by
  rw [State.wakeUp_eq, State.afterDispatch]
  split
  · next h => exact State.checkIrq_of_halted (Bool.and_eq_true_iff.1 h).1
  · exact State.checkIrq_of_running rfl

/-- A step is its first half, the due events, and what follows their dispatch. -/
theorem step_of_dispatched {s t : State} {y : Sys} (first : s.rollFrame.runCpu = .next t)
    (hy : t.sys.dispatchDue Config.dispatchBudget = .ok y) (hd : y.dispatchLeft = false) :
    step s = .next (t.withSys { y with midDispatch := false }).afterDispatch := by
  rw [← State.wakeUp_checkIrq, step, State.machineStep, first]
  simp [State.runEvents, hy, orFault, hd]

/-- Settles O34: the three clauses differ in the first half of the step only. -/
theorem haltAndInterrupt : Obligations.HaltAndInterrupt := by
  refine ⟨fun s t y hh hm ht hy hd => ?instruction, fun s y hh hm hy hd => ?idle, fun s y hm hy hd => ?handedOver⟩
  case instruction =>
    have first : s.rollFrame.runCpu = .next t.commit := by simp [State.runCpu, hh, hm, ht]
    exact (step_of_dispatched first hy hd :)
  case idle =>
    have first : s.rollFrame.runCpu = .next s.rollFrame.idle := by simp [State.runCpu, hh, hm]
    exact (step_of_dispatched first hy hd :)
  case handedOver =>
    have first : s.rollFrame.runCpu = .next s.rollFrame := by simp [State.runCpu, hm]
    exact (step_of_dispatched first hy hd :)

end Sys2Proof.Machine
end

section
/-! PROOFS. O5, O53 (spec/70_reset_and_hazards.md R770, R771, 10_state.md R80, R81, R86): the spec's sample words, and the
state after reset. -/

namespace Sys2Proof.Machine

open Sys2Proof

/-- Settles O5: the decoder evaluates each word. -/
theorem decodeSamples : Obligations.DecodeSamples := by
  unfold Obligations.DecodeSamples
  decide

/-! ## The reset state (70_reset_and_hazards.md R770, R771) -/

theorem State.powerOn_reset : State.powerOn Params.reset [] = State.reset := rfl

theorem Sys.reset_events : Sys.reset.events = [{ cycle := 1006, kind := .hdrawEnd, seq := 0 }] := rfl

/-- An unlisted byte below the EEPROM reads 0. -/
theorem Memory.blank_of_lt {k : Nat} (h : k < 0x0D000000) : Memory.blank k = 0#8 := by
  have erased : erasedKey k = false := by
    simp only [erasedKey, Bool.or_eq_false_iff, Bool.and_eq_false_iff, decide_eq_false_iff_not]
    omega
  rw [Memory.blank, erased]
  rfl

theorem Sys.reset_queueOrdered : Sys.reset.queueOrdered := by
  rw [Sys.queueOrdered, Sys.reset_events]
  exact ⟨List.pairwise_singleton _ _, by decide, List.pairwise_singleton _ _⟩

/-- The first line is line 0, in its HDraw. -/
theorem Sys.reset_ppuCoherent : Sys.reset.ppuCoherent :=
  (Sys.ppuCoherent_iff _).2 ⟨{ cycle := 1006, kind := .hdrawEnd, seq := 0 }, 0, by decide, rfl, rfl, rfl, by decide, by decide⟩

theorem Sys.reset_reservedClear : Sys.reset.reservedClear := by
  unfold Sys.reservedClear
  decide

/-- Settles O53: the registers are those of `Cpu.reset` and `Sys.reset`, and each invariant was checked above. -/
theorem resetState : Obligations.ResetState :=
  ⟨State.powerOn_reset, by decide, rfl, by decide, by decide, rfl, rfl, rfl, rfl, rfl, rfl, rfl, rfl, Sys.reset_events,
    fun _ hk => Memory.blank_of_lt hk, ⟨by decide, by decide⟩, ⟨by decide, by decide⟩, Sys.reset_queueOrdered,
    Sys.reset_ppuCoherent, Sys.reset_reservedClear⟩

end Sys2Proof.Machine
end
